-- ==== Sys2Proof/Word.lean ====
section
/-! DEFINITION. The two widths of the core: bytes and 32-bit words (00_scope.md R11, R12). -/

namespace Sys2Proof

/-- A byte: an unsigned 8-bit value, bit 7 the most significant (R12). -/
abbrev Byte := BitVec 8

/-- A word: an unsigned 32-bit value (R12); the width of every host register (R102). -/
abbrev Word := BitVec 32

end Sys2Proof
end

