-- ==== Sys2Proof/Config.lean ====
section
/-! DEFINITION. What the spec leaves to an implementation or leaves open: constants with no body, so that no proof can
see a value of theirs (00_scope.md R11, 20_memory.md R203, 93_implementation_defined.md U1 and U9). -/

namespace Sys2Proof.Config

/-- `ANY32` (R203, R912, U1): the value of the n-th host read that the spec leaves unspecified. A read takes the next
value by the counter `State.draws`, so two reads may differ. DESIGN CHOICE (log entry 3): a free value, safe. -/
opaque any32 : Nat → Word

/-- `AES_BASE` (R11, R213, U9): where the platform places the register window. The core sees only offsets within the
window (R214), so nothing a step does depends on it. DEDUCED (log entry 4): a free value, safe. -/
opaque aesBase : Nat

end Sys2Proof.Config
end

