-- ==== Sys2Proof/Syntax.lean ====
section
/-! DEFINITION. The fourteen commands of the core and their operands (30_encoding.md R301 to R309). -/

namespace Sys2Proof

/-- The three key types (00_scope.md R3, R10): the operand of KEY_EXPAND and the type of the stored schedule. -/
inductive KeyType where
  | aes128
  | aes192
  | aes256
deriving DecidableEq, Repr

/-- One constructor for each row of the opcode map (R303). A command names no register: its operands are the fixed
registers its rule names (R302); only three commands have a field (R305). -/
inductive Instr where
  /-- NOP, R761. -/
  | nop
  /-- KEY_EXPAND kt, R660. -/
  | keyExpand (kt : KeyType)
  /-- ENCRYPT, R709. -/
  | encrypt
  /-- DECRYPT, R710. -/
  | decrypt
  /-- LOAD_STATE, R763. -/
  | loadState
  /-- STORE_STATE, R765. -/
  | storeState
  /-- SUB_BYTES, R459. -/
  | subBytes
  /-- INV_SUB_BYTES, R460. -/
  | invSubBytes
  /-- SHIFT_ROWS, R505. -/
  | shiftRows
  /-- INV_SHIFT_ROWS, R506. -/
  | invShiftRows
  /-- MIX_COLUMNS, R559. -/
  | mixColumns
  /-- INV_MIX_COLUMNS, R560. -/
  | invMixColumns
  /-- ADD_ROUND_KEY n, R604. The operand is the round index as a number; `Instr.wf` holds it to the field's range. -/
  | addRoundKey (rnd : Nat)
  /-- GF_MUL a, b, R409. -/
  | gfMul (a b : Byte)
deriving DecidableEq, Repr

end Sys2Proof
end

