-- ==== Sys2Proof/WellFormed.lean ====
section
/-! DEFINITION. Which commands an assembler accepts (30_encoding.md R309): "An assembler refuses an operand out of range
(KT name other than the three, n > 15, a byte > 0xFF)". The key type and the byte operands are in range by their types;
the round index is checked. -/

namespace Sys2Proof

/-- The check of R309: a round index fits the four bits of RND; every other operand is in range by its type. -/
def Instr.wf : Instr → Bool
  | .nop => true
  | .keyExpand _ => true
  | .encrypt => true
  | .decrypt => true
  | .loadState => true
  | .storeState => true
  | .subBytes => true
  | .invSubBytes => true
  | .shiftRows => true
  | .invShiftRows => true
  | .mixColumns => true
  | .invMixColumns => true
  | .addRoundKey rnd => decide (rnd ≤ 15)
  | .gfMul _ _ => true

end Sys2Proof
end

