-- ==== Sys2Proof/Decode.lean ====
section
/-! DEFINITION. Command words: the opcode map, the decoder, total on every 32-bit word, and the encoder
(30_encoding.md R301 to R309). A command is exactly one word (R308); there is no byte stream to parse. -/

namespace Sys2Proof

/-! ### Fields of a command word (R301, R302) -/

/-- `OP = v[5:0]`. -/
def opField (v : Word) : BitVec 6 := v.extractLsb' 0 6

/-- `KT = v[7:6]`. -/
def ktField (v : Word) : BitVec 2 := v.extractLsb' 6 2

/-- `RND = zext(v[11:8])`. -/
def rndField (v : Word) : Nat := (v.extractLsb' 8 4).toNat

/-- `A = v[23:16]`. -/
def aField (v : Word) : Byte := v.extractLsb' 16 8

/-- `B = v[31:24]`. -/
def bField (v : Word) : Byte := v.extractLsb' 24 8

/-- The key-type codes of R10: 0 = Aes128, 1 = Aes192, 2 = Aes256. -/
def KeyType.code : KeyType → BitVec 2
  | .aes128 => 0
  | .aes192 => 1
  | .aes256 => 2

/-- The key type of a KT field; 3 is illegal (R301). -/
def KeyType.ofCode (c : BitVec 2) : Option KeyType :=
  if c = 0 then some .aes128
  else if c = 1 then some .aes192
  else if c = 2 then some .aes256
  else none

/-! ### The opcode map (R303) -/

/-- The mnemonics of R303, as names. -/
inductive CommandName where
  | nop | keyExpand | encrypt | decrypt | loadState | storeState | subBytes | invSubBytes
  | shiftRows | invShiftRows | mixColumns | invMixColumns | addRoundKey | gfMul
deriving DecidableEq, Repr

/-- One row of the map of R303. -/
structure OpcodeRow where
  opcode : BitVec 6
  name : CommandName
  matchWord : Word
  mask : Word
deriving DecidableEq, Repr

/-- The opcode map, row by row as R303 prints it. -/
def opcodeMap : List OpcodeRow :=
  [ ⟨0x00, .nop,           0x00000000, 0xFFFFFFFF⟩,
    ⟨0x01, .keyExpand,     0x00000001, 0xFFFFFF3F⟩,
    ⟨0x02, .encrypt,       0x00000002, 0xFFFFFFFF⟩,
    ⟨0x03, .decrypt,       0x00000003, 0xFFFFFFFF⟩,
    ⟨0x04, .loadState,     0x00000004, 0xFFFFFFFF⟩,
    ⟨0x05, .storeState,    0x00000005, 0xFFFFFFFF⟩,
    ⟨0x08, .subBytes,      0x00000008, 0xFFFFFFFF⟩,
    ⟨0x09, .invSubBytes,   0x00000009, 0xFFFFFFFF⟩,
    ⟨0x0A, .shiftRows,     0x0000000A, 0xFFFFFFFF⟩,
    ⟨0x0B, .invShiftRows,  0x0000000B, 0xFFFFFFFF⟩,
    ⟨0x0C, .mixColumns,    0x0000000C, 0xFFFFFFFF⟩,
    ⟨0x0D, .invMixColumns, 0x0000000D, 0xFFFFFFFF⟩,
    ⟨0x0E, .addRoundKey,   0x0000000E, 0xFFFFF0FF⟩,
    ⟨0x10, .gfMul,         0x00000010, 0x0000FFFF⟩ ]

/-- The row with a given opcode, if there is one: the first line of R304. -/
def rowOfOpcode (op : BitVec 6) : Option OpcodeRow :=
  opcodeMap.find? fun row => row.opcode == op

/-! ### The decoder (R304) -/

/-- Why a word is ILLEGAL, one name for each line of R304 that answers so (R306 lists the same three classes). All
three make the command fail with ILLEGAL_COMMAND; the core records no more than that (R801). -/
inductive Illegal where
  /-- No row has this OP: 0x06, 0x07, 0x0F and 0x11 to 0x3F. -/
  | unassignedOpcode
  /-- A bit outside the row's fields is 1. -/
  | nonzeroUnusedField
  /-- KEY_EXPAND with KT = 3. -/
  | reservedKeyType
deriving DecidableEq, Repr

/-- What a word decodes to: exactly one command, or ILLEGAL with the reason. -/
inductive Decoded where
  | instr (i : Instr)
  | illegal (why : Illegal)
deriving DecidableEq, Repr

/-- The last lines of R304: the command of a matching row, with the fields it uses (R305). RND is not range-checked. -/
def commandOf (name : CommandName) (v : Word) : Decoded :=
  match name with
  | .nop => .instr .nop
  | .keyExpand =>
    match KeyType.ofCode (ktField v) with
    | some kt => .instr (.keyExpand kt)
    | none => .illegal .reservedKeyType
  | .encrypt => .instr .encrypt
  | .decrypt => .instr .decrypt
  | .loadState => .instr .loadState
  | .storeState => .instr .storeState
  | .subBytes => .instr .subBytes
  | .invSubBytes => .instr .invSubBytes
  | .shiftRows => .instr .shiftRows
  | .invShiftRows => .instr .invShiftRows
  | .mixColumns => .instr .mixColumns
  | .invMixColumns => .instr .invMixColumns
  | .addRoundKey => .instr (.addRoundKey (rndField v))
  | .gfMul => .instr (.gfMul (aField v) (bField v))

/-- `Decode(v)` of R304. -/
def decode (v : Word) : Decoded :=
  match rowOfOpcode (opField v) with
  | none => .illegal .unassignedOpcode
  | some row =>
    if v &&& row.mask = row.matchWord then commandOf row.name v
    else .illegal .nonzeroUnusedField

/-! ### The encoder (R301, R309) -/

/-- The one format CMD32 (R301), most significant field first: `BBBBBBBB AAAAAAAA 0000 RRRR KK OOOOOO`. -/
def cmd32 (op : BitVec 6) (kt : BitVec 2) (rnd : BitVec 4) (a b : Byte) : Word :=
  b ++ a ++ 0#4 ++ rnd ++ kt ++ op

/-- The word of a command (R309); a field the command does not use is 0 (R305). -/
def encode : Instr → Word
  | .nop => cmd32 0x00 0 0 0 0
  | .keyExpand kt => cmd32 0x01 kt.code 0 0 0
  | .encrypt => cmd32 0x02 0 0 0 0
  | .decrypt => cmd32 0x03 0 0 0 0
  | .loadState => cmd32 0x04 0 0 0 0
  | .storeState => cmd32 0x05 0 0 0 0
  | .subBytes => cmd32 0x08 0 0 0 0
  | .invSubBytes => cmd32 0x09 0 0 0 0
  | .shiftRows => cmd32 0x0A 0 0 0 0
  | .invShiftRows => cmd32 0x0B 0 0 0 0
  | .mixColumns => cmd32 0x0C 0 0 0 0
  | .invMixColumns => cmd32 0x0D 0 0 0 0
  | .addRoundKey rnd => cmd32 0x0E 0 (BitVec.ofNat 4 rnd) 0 0
  | .gfMul a b => cmd32 0x10 0 0 a b

/-- What an assembler emits (R309): the word of a well-formed command, and nothing for an operand out of range. -/
def assemble (i : Instr) : Option Word :=
  if i.wf then some (encode i) else none

/-! ### Words as the opcode table numbers them -/

/-- The command word whose bits are `w`, `nbits` of them given and every higher bit 0. Bit 0 of the table's numbering
is bit 0 of the one word of a command (R301, R308), so no reordering is needed. -/
def tableWord (nbits w : Nat) : Word := BitVec.ofNat 32 (w % 2 ^ nbits)

/-- The command the decoder reads from a word of the opcode table; none where it refuses, and none for more than the
32 bits a command has (R308). -/
def decodeTableWord (nbits w : Nat) : Option Instr :=
  if nbits ≤ 32 then
    match decode (tableWord nbits w) with
    | .instr i => some i
    | .illegal _ => none
  else none

end Sys2Proof
end

