-- ==== Sys2Proof/Machine/State.lean ====
section
/-! DEFINITION. The state of the core (10_state.md R101, R128), the events that change it (20_memory.md R215), why a step
can stop, and the state after reset (70_reset_and_hazards.md R901).

The core has no memory, no program counter and no general registers (R127, R201): its one address space is the register
window, and every register of the window has its one home in a field below. -/

namespace Sys2Proof.Machine

/-- A 4×4 matrix of bytes, row by row: entry `[r][c]` is `s[r, c]` (00_scope.md R13). -/
abbrev StateMatrix := Vector (Vector Byte 4) 4

/-- The codes of STATUS.ERR (60_exceptions.md R801). Codes 6 to 15 are never produced (U6), so they have no name here;
the numbers are `ErrCode.code`. -/
inductive ErrCode where
  | ok
  | invalidBlockLength
  | invalidKeyLength
  | noKeySchedule
  | illegalCommand
  | invalidRound
deriving DecidableEq, Repr

/-- What a host access names: a byte offset of the register window and a width in bits (20_memory.md R202, R210). -/
structure Access where
  offset : Nat
  width : Nat
deriving DecidableEq, Repr

/-- The events of R215, in the one total order of an execution, and the points where the engine is given its turn. -/
inductive Event where
  /-- A host write of `v` (R204). -/
  | hostWrite (a : Access) (v : Word)
  /-- A host read (R203). -/
  | hostRead (a : Access)
  /-- The engine's turn: the pending command, if there is one, executes and commits here (R751). -/
  | engine
  /-- A reset by the platform (R903). -/
  | reset
deriving DecidableEq, Repr

/-- The machine. The first thirteen fields are exactly the architectural state of R101; the last three are the model's own
(log entries 1, 3 and 7). -/
structure State where
  /-- PENDING (R125): empty, or the command word accepted by CMD and not yet completed. STATUS.BUSY is `busy` of it. -/
  pending : Option Word
  /-- STATUS.KSV (R111): W holds the schedule of a successful KEY_EXPAND since reset. -/
  ksv : Bool
  /-- STATUS.KSKT (R111): the key type of the schedule in W; it never reads 3. -/
  kskt : KeyType
  /-- STATUS.DROP (R112): a host write was dropped because the core was busy. -/
  drop : Bool
  /-- STATUS.ERR (R111, R804): the result of the most recently completed command. -/
  err : ErrCode
  /-- KEYLEN[7:0] (R113); bits 31:8 read 0. -/
  keylen : Byte
  /-- BLKLEN[7:0] (R114); bits 31:8 read 0. -/
  blklen : Byte
  /-- GFR[7:0] (R118); bits 31:8 read 0. -/
  gfr : Byte
  /-- KEY0..KEY7 (R115). -/
  key : Vector Word 8
  /-- DIN0..DIN3 (R116). -/
  din : Vector Word 4
  /-- DOUT0..DOUT3 (R117). -/
  dout : Vector Word 4
  /-- STATE (R119), the working State of the single-transform commands. -/
  state : StateMatrix
  /-- W0..W59 (R121), the key-schedule register file. -/
  w : Vector Word 60
  /-- The model's own: the events still to come, in order. It is plain data, so every interleaving of host and engine
  (R751, R812) is some state. -/
  schedule : List Event
  /-- The model's own: the values the host's reads returned, newest first. -/
  observed : List Word
  /-- The model's own: how many unspecified values (`Config.any32`) reads have drawn. -/
  draws : Nat
deriving DecidableEq, Repr

/-- Why the machine stops with a fault. No command ends in one. -/
inductive Fault where
  /-- Raised by a host access that is misaligned, not 32 bits wide or beyond offset 0x1FC, when the engine has nothing to do:
  "A model has no step for it (the host agent is stuck at that access)" (R210, U2). Safe: an implementation may go on. -/
  | hostStuckOutsideInterface
deriving DecidableEq, Repr

/-- Why a step has no meaning. No command ends in one. -/
inductive Refusal where
  /-- Raised by an arm of `exec` whose instruction has no meaning yet; no arm raises it. Safe. -/
  | notModelled (mnemonic : String)
  /-- Raised by `step` when PENDING is empty and no event is to come: "When PENDING is empty the engine has no step" (R751)
  and the host makes no access. Safe: the core waits, and no state is claimed to follow. -/
  | noAgentHasAStep
deriving DecidableEq, Repr

/-- The state after reset (R901): PENDING empty and every register 0 (KSKT 0 is Aes128, ERR 0 is OK). The model's own three
fields are empty (DESIGN CHOICE, log entry 7). -/
def State.reset : State where
  pending := none
  ksv := false
  kskt := .aes128
  drop := false
  err := .ok
  keylen := 0
  blklen := 0
  gfr := 0
  key := Vector.replicate 8 0
  din := Vector.replicate 4 0
  dout := Vector.replicate 4 0
  state := Vector.replicate 4 (Vector.replicate 4 0)
  w := Vector.replicate 60 0
  schedule := []
  observed := []
  draws := 0

end Sys2Proof.Machine
end

