-- ==== Sys2Proof/Machine/Operands.lean ====
section
/-! DEFINITION. How bytes, words, byte sequences and the State matrix are read from one another (00_scope.md R12 to R17,
20_memory.md R207), the constants of a key type (R10), and the register map (10_state.md R102). -/

namespace Sys2Proof

/-! ### Key-type constants (R10) -/

/-- `Nk`, the key length in words. -/
def KeyType.nk : KeyType → Nat
  | .aes128 => 4
  | .aes192 => 6
  | .aes256 => 8

/-- `Nr`, the number of rounds. -/
def KeyType.nr : KeyType → Nat
  | .aes128 => 10
  | .aes192 => 12
  | .aes256 => 14

end Sys2Proof

namespace Sys2Proof.Machine

/-! ### Bytes of a word (R12) -/

/-- `byte_r(w) = w[31-8r : 24-8r]`, so byte 0 is the most significant. -/
def byteOf (w : Word) (r : Fin 4) : Byte := w.extractLsb' (24 - 8 * r.val) 8

/-- The word `{b0, b1, b2, b3}`, `b0` in bits 31:24. -/
def wordOf (b0 b1 b2 b3 : Byte) : Word := b0 ++ b1 ++ b2 ++ b3

/-! ### The State matrix (R13, R15 to R17) -/

/-- `s[r, c]`. -/
def StateMatrix.cell (s : StateMatrix) (r c : Fin 4) : Byte := s[r][c]

/-- The matrix with `s[r, c] = f r c`. -/
def StateMatrix.ofFn (f : Fin 4 → Fin 4 → Byte) : StateMatrix :=
  Vector.ofFn fun r => Vector.ofFn fun c => f r c

/-- `colword(s, c)` (R17). -/
def colword (s : StateMatrix) (c : Fin 4) : Word :=
  wordOf (s.cell 0 c) (s.cell 1 c) (s.cell 2 c) (s.cell 3 c)

/-- `setcol(s, c, w)` (R17): column c takes the bytes of w. -/
def setcol (s : StateMatrix) (c : Fin 4) (w : Word) : StateMatrix :=
  StateMatrix.ofFn fun r c' => if c' = c then byteOf w r else s.cell r c'

/-- `pack(in)` (R15): `s[r, c] = in[r + 4c]`. -/
def pack (input : Vector Byte 16) : StateMatrix :=
  StateMatrix.ofFn fun r c => input[r.val + 4 * c.val]

/-- `flatten(s)` (R16): `out[r + 4c] = s[r, c]`. -/
def flatten (s : StateMatrix) : Vector Byte 16 :=
  Vector.ofFn fun i => s.cell (Fin.ofNat 4 i.val) (Fin.ofNat 4 (i.val / 4))

/-! ### Byte sequences in registers (R115 to R117, R207) -/

/-- `KEYBYTES[j] = byte_(j mod 4)(KEY(j div 4))` (R115). -/
def State.keyBytes (s : State) : Vector Byte 32 :=
  Vector.ofFn fun j => byteOf s.key[j.val / 4] (Fin.ofNat 4 j.val)

/-- `DINBYTES[j] = byte_(j mod 4)(DIN(j div 4))` (R116). -/
def State.dinBytes (s : State) : Vector Byte 16 :=
  Vector.ofFn fun j => byteOf s.din[j.val / 4] (Fin.ofNat 4 j.val)

/-- Sixteen bytes as four registers, `{out[4j], ..., out[4j+3]}` in register j (R117). -/
def blockWords (out : Vector Byte 16) : Vector Word 4 :=
  Vector.ofFn fun j => wordOf out[4 * j.val] out[4 * j.val + 1] out[4 * j.val + 2] out[4 * j.val + 3]

/-- Word i of a key, "packed big-endian, 4 bytes per word" (R655). -/
def keyWord (key : Vector Byte 32) (i : Fin 8) : Word :=
  wordOf key[4 * i.val] key[4 * i.val + 1] key[4 * i.val + 2] key[4 * i.val + 3]

/-- `W[i]` (R18). The commands use indexes 0 to 59 only (R123); what it gives elsewhere is never used (log entry 12). -/
def scheduleWord (w : Vector Word 60) (i : Nat) : Word := w[i]?.getD 0

/-! ### The register map (R102) -/

/-- The registers of the window, by the names of R102. -/
inductive Reg where
  | cmd
  | status
  | keylen
  | blklen
  | gfr
  | key (j : Fin 8)
  | din (j : Fin 4)
  | dout (j : Fin 4)
  | state (c : Fin 4)
  | w (i : Fin 60)
deriving DecidableEq, Repr

/-- The offset column of R102. -/
def Reg.offset : Reg → Nat
  | .cmd => 0x000
  | .status => 0x004
  | .keylen => 0x008
  | .blklen => 0x00C
  | .gfr => 0x010
  | .key j => 0x020 + 4 * j.val
  | .din j => 0x040 + 4 * j.val
  | .dout j => 0x050 + 4 * j.val
  | .state c => 0x060 + 4 * c.val
  | .w i => 0x100 + 4 * i.val

/-- The register at an aligned offset of the window, or none at a reserved offset (R102, R124). -/
def regAt (off : Nat) : Option Reg :=
  if off = 0x000 then some .cmd
  else if off = 0x004 then some .status
  else if off = 0x008 then some .keylen
  else if off = 0x00C then some .blklen
  else if off = 0x010 then some .gfr
  else if h : 0x020 ≤ off ∧ off < 0x040 then some (.key ⟨(off - 0x020) / 4, by omega⟩)
  else if h : 0x040 ≤ off ∧ off < 0x050 then some (.din ⟨(off - 0x040) / 4, by omega⟩)
  else if h : 0x050 ≤ off ∧ off < 0x060 then some (.dout ⟨(off - 0x050) / 4, by omega⟩)
  else if h : 0x060 ≤ off ∧ off < 0x070 then some (.state ⟨(off - 0x060) / 4, by omega⟩)
  else if h : 0x100 ≤ off ∧ off < 0x1F0 then some (.w ⟨(off - 0x100) / 4, by omega⟩)
  else none

/-- An access the interface defines: 32 bits, aligned, within the window (R202). -/
def Access.defined (a : Access) : Bool :=
  decide (a.width = 32) && decide (a.offset % 4 = 0) && decide (a.offset ≤ 0x1FC)

/-- The platform address of a register (R102: offsets are "from the parameter `AES_BASE`"). -/
def Reg.address (r : Reg) : Nat := Config.aesBase + r.offset

/-- The offset the core sees for a platform address, if the address lies in the window of 0x200 bytes (R201, R213). -/
def windowOffset (addr : Nat) : Option Nat :=
  if Config.aesBase ≤ addr ∧ addr < Config.aesBase + 0x200 then some (addr - Config.aesBase) else none

end Sys2Proof.Machine
end

