-- ==== Sys2Proof/Machine/Flags.lean ====
section
/-! DEFINITION. STATUS: its fields as the host reads them (10_state.md R111, 20_memory.md R203), the error codes
(60_exceptions.md R801), and the checks a command makes before it runs (R802). -/

namespace Sys2Proof.Machine

/-! ### STATUS -/

/-- STATUS.BUSY: "1 exactly when PENDING is full" (R111, R125). -/
def State.busy (s : State) : Bool := s.pending.isSome

/-- The numbers of R801. -/
def ErrCode.code : ErrCode → BitVec 4
  | .ok => 0
  | .invalidBlockLength => 1
  | .invalidKeyLength => 2
  | .noKeySchedule => 3
  | .illegalCommand => 4
  | .invalidRound => 5

/-- The word a read of STATUS returns, most significant field first: bits 31:12 are 0, ERR 11:8, bits 7:5 are 0, DROP 4,
KSKT 3:2, KSV 1, BUSY 0 (R111, R203). -/
def State.statusWord (s : State) : Word :=
  0#20 ++ s.err.code ++ 0#3 ++ BitVec.ofBool s.drop ++ s.kskt.code ++ BitVec.ofBool s.ksv ++ BitVec.ofBool s.busy

/-! ### Checks (R802): each answers the error it finds -/

/-- INVALID_KEY_LENGTH: `KEYLEN[7:0] != 4·Nk` (R660). -/
def State.keyLengthError (s : State) (kt : KeyType) : Option ErrCode :=
  if s.keylen.toNat = 4 * kt.nk then none else some .invalidKeyLength

/-- INVALID_BLOCK_LENGTH: `BLKLEN[7:0] != 16` (R709, R710, R763). -/
def State.blockLengthError (s : State) : Option ErrCode :=
  if s.blklen.toNat = 16 then none else some .invalidBlockLength

/-- NO_KEY_SCHEDULE: `STATUS.KSV = 0` (R604, R709, R710). -/
def State.scheduleError (s : State) : Option ErrCode :=
  if s.ksv then none else some .noKeySchedule

/-- INVALID_ROUND: `RND > Nr(STATUS.KSKT)` (R604). -/
def State.roundError (s : State) (rnd : Nat) : Option ErrCode :=
  if rnd ≤ s.kskt.nr then none else some .invalidRound

/-- "The checks are made in this order and the first that fails is the one reported" (R802). -/
def firstError : List (Option ErrCode) → Option ErrCode
  | [] => none
  | some e :: _ => some e
  | none :: rest => firstError rest

end Sys2Proof.Machine
end

