-- ==== Sys2Proof/Machine/Ops.lean ====
section
/-! DEFINITION. The named operations over the registers: ending a command (commit, success, error), the writes commands
make, host reads and writes, and reset. Raising an error is the core's one form of exception (60_exceptions.md R803): it
saves nothing and goes nowhere (R813), and there is no return from it (R814). -/

namespace Sys2Proof.Machine

/-! ### Ending a command (R755, R803) -/

/-- The commit of a command (R755): "all of the command's register writes (…, including `STATUS.ERR`) take effect together,
and PENDING becomes empty". -/
def State.commit (s : State) (code : ErrCode) : State := { s with err := code, pending := none }

/-- `raise E(code)` (R803): the commit writes `STATUS.ERR <- code` and nothing else. -/
def raise (code : ErrCode) (s : State) : Host.Outcome State Fault Refusal := .next (s.commit code)

/-- The commit of a command that did not fail: `s` holds its writes, and `STATUS.ERR <- OK`. -/
def succeed (s : State) : Host.Outcome State Fault Refusal := .next (s.commit .ok)

/-- A command that makes `checks`, in order, on the state `s` and otherwise leaves the writes in `done` (R802). -/
def checked (checks : List (Option ErrCode)) (s done : State) : Host.Outcome State Fault Refusal :=
  match firstError checks with
  | some code => raise code s
  | none => succeed done

/-! ### The registers commands write (R128) -/

/-- `STATE <- m`. -/
def State.setState (s : State) (m : StateMatrix) : State := { s with state := m }

/-- `DOUTj <- {out[4j], ..., out[4j+3]}` for j = 0 to 3. -/
def State.setDout (s : State) (out : Vector Byte 16) : State := { s with dout := blockWords out }

/-- `GFR <- zext_32(b)`; GFR holds the byte (R118). -/
def State.setGfr (s : State) (b : Byte) : State := { s with gfr := b }

/-- The writes of a successful KEY_EXPAND (R660): all sixty words of W, KSV and KSKT. -/
def State.setSchedule (s : State) (kt : KeyType) (w : Vector Word 60) : State :=
  { s with w := w, ksv := true, kskt := kt }

/-! ### Host reads (R203) -/

/-- The registers whose reads are unspecified while BUSY = 1 (R203, R912). -/
def Reg.isResult : Reg → Bool
  | .gfr => true
  | .dout _ => true
  | .state _ => true
  | .w _ => true
  | .cmd => false
  | .status => false
  | .keylen => false
  | .blklen => false
  | .key _ => false
  | .din _ => false

/-- What a register holds, as a 32-bit value (R203); CMD reads 0 (R110). -/
def State.regValue (s : State) : Reg → Word
  | .cmd => 0
  | .status => s.statusWord
  | .keylen => s.keylen.setWidth 32
  | .blklen => s.blklen.setWidth 32
  | .gfr => s.gfr.setWidth 32
  | .key j => s.key[j]
  | .din j => s.din[j]
  | .dout j => s.dout[j]
  | .state c => colword s.state c
  | .w i => s.w[i]

/-- Whether a read of an offset returns `ANY32` (R203). -/
def State.readIsUnspecified (s : State) (off : Nat) : Bool :=
  match regAt off with
  | some r => s.busy && r.isResult
  | none => false

/-- The value `HostRead(off)` returns (R203); a reserved offset reads 0 (R124). -/
def State.readValue (s : State) (off : Nat) : Word :=
  match regAt off with
  | some r => if s.busy && r.isResult then Config.any32 s.draws else s.regValue r
  | none => 0

/-- A host read. It "changes no state" of the core (R203): the value goes to the host, and an unspecified one is drawn. -/
def State.hostRead (s : State) (off : Nat) : State :=
  { s with
    observed := s.readValue off :: s.observed
    draws := if s.readIsUnspecified off then s.draws + 1 else s.draws }

/-! ### Host writes (R204) -/

/-- What a write to a register does when it is not dropped: a read-only register ignores it (R204). -/
def State.writeReg (s : State) (r : Reg) (v : Word) : State :=
  match r with
  | .cmd => { s with pending := some v }
  | .keylen => { s with keylen := v.extractLsb' 0 8 }
  | .blklen => { s with blklen := v.extractLsb' 0 8 }
  | .key j => { s with key := s.key.set j.val v }
  | .din j => { s with din := s.din.set j.val v }
  | .status => { s with drop := s.drop && !v.getLsbD 4 }
  | .gfr => s
  | .dout _ => s
  | .state _ => s
  | .w _ => s

/-- The registers whose writes are dropped, and flagged in DROP, while BUSY = 1 (R112, R204). -/
def Reg.isInput : Reg → Bool
  | .cmd => true
  | .keylen => true
  | .blklen => true
  | .key _ => true
  | .din _ => true
  | .status => false
  | .gfr => false
  | .dout _ => false
  | .state _ => false
  | .w _ => false

/-- `HostWrite(off, v)` (R204); a write to a reserved offset has no effect (R124). -/
def State.hostWrite (s : State) (off : Nat) (v : Word) : State :=
  match regAt off with
  | some r => if s.busy && r.isInput then { s with drop := true } else s.writeReg r v
  | none => s

/-! ### Reset (R901 to R903) -/

/-- A reset by the platform: every piece of architectural state takes its reset value, and a pending command is discarded
(R902). The model's own fields (the host's side of the interface) are no state of the core and stay. -/
def State.platformReset (s : State) : State :=
  { State.reset with schedule := s.schedule, observed := s.observed, draws := s.draws }

end Sys2Proof.Machine
end

