-- ==== Sys2Proof/Machine/AddRoundKey.lean ====
section
/-! DEFINITION. AddRoundKey and its command (44_addroundkey.md R601 to R604). -/

namespace Sys2Proof.Machine

/-- AddRoundKey (R601): `s'[r, c] <- s[r, c] xor byte_r(W[4·rnd + c])`. -/
def addRoundKey (s : StateMatrix) (w : Vector Word 60) (rnd : Nat) : StateMatrix :=
  StateMatrix.ofFn fun r c => s.cell r c ^^^ byteOf (scheduleWord w (4 * rnd + c.val)) r

/-- ADD_ROUND_KEY n (R604): NO_KEY_SCHEDULE, then INVALID_ROUND, else `STATE <- AddRoundKey(STATE, W, RND)`. -/
def execAddRoundKey (rnd : Nat) (s : State) : Host.Outcome State Fault Refusal :=
  checked [s.scheduleError, s.roundError rnd] s (s.setState (addRoundKey s.state s.w rnd))

end Sys2Proof.Machine
end

