-- ==== Sys2Proof/Machine/FiniteField.lean ====
section
/-! DEFINITION. Arithmetic in GF(2^8) and the command GF_MUL (40_finite_field.md R401 to R409). A field element is a byte,
a polynomial modulo 0x11B (R401). -/

namespace Sys2Proof.Machine

/-- `add(x, y) = x xor y` (R402). -/
def gfAdd (x y : Byte) : Byte := x ^^^ y

/-- `x_time(x)` (R403): multiplication by the field element x, "times 2". -/
def xTime (x : Byte) : Byte :=
  if x.getLsbD 7 then (x <<< 1) ^^^ 0x1B else x <<< 1

/-- `mul02(x) = x_time(x)` (R404). -/
def mul02 (x : Byte) : Byte := xTime x

/-- `mul03(x) = x_time(x) xor x` (R405). -/
def mul03 (x : Byte) : Byte := xTime x ^^^ x

/-- The loop of R406 with its variables a, b and r; it "runs at most 8 times", which is the first argument. -/
def multiplyLoop : Nat → Byte → Byte → Byte → Byte
  | 0, _, _, r => r
  | n + 1, a, b, r =>
    if b = 0 then r
    else multiplyLoop n (xTime a) (b >>> 1) (if b.getLsbD 0 then r ^^^ a else r)

/-- `multiply(x, y)` (R406). -/
def multiply (x y : Byte) : Byte := multiplyLoop 8 x y 0

/-- `x_time^n(x)`. -/
def xTimeIter : Nat → Byte → Byte
  | 0, x => x
  | n + 1, x => xTime (xTimeIter n x)

/-- GF_MUL a, b (R409): `GFR <- zext_32(multiply(A, B))`; no error but a bad encoding. -/
def execGfMul (a b : Byte) (s : State) : Host.Outcome State Fault Refusal :=
  succeed (s.setGfr (multiply a b))

end Sys2Proof.Machine
end

