-- ==== Sys2Proof/Machine/MixColumns.lean ====
section
/-! DEFINITION. The matrices, MixColumns, InvMixColumns and their commands (43_mixcolumns.md R551 to R560). -/

namespace Sys2Proof.Machine

/-- The forward matrix M (R551). -/
def mixMatrix : StateMatrix :=
  #v[#v[0x02, 0x03, 0x01, 0x01],
     #v[0x01, 0x02, 0x03, 0x01],
     #v[0x01, 0x01, 0x02, 0x03],
     #v[0x03, 0x01, 0x01, 0x02]]

/-- The inverse matrix IM (R552). -/
def invMixMatrix : StateMatrix :=
  #v[#v[0x0E, 0x0B, 0x0D, 0x09],
     #v[0x09, 0x0E, 0x0B, 0x0D],
     #v[0x0D, 0x09, 0x0E, 0x0B],
     #v[0x0B, 0x0D, 0x09, 0x0E]]

/-- The product of a matrix and every column of a State:
`s'[i, c] <- xor over k = 0..3 of multiply(m[i][k], s[k, c])` (R553, R555). -/
def matrixTimes (m s : StateMatrix) : StateMatrix :=
  StateMatrix.ofFn fun i c =>
    multiply (m.cell i 0) (s.cell 0 c) ^^^ multiply (m.cell i 1) (s.cell 1 c) ^^^
      multiply (m.cell i 2) (s.cell 2 c) ^^^ multiply (m.cell i 3) (s.cell 3 c)

/-- MixColumns (R553). -/
def mixColumns (s : StateMatrix) : StateMatrix := matrixTimes mixMatrix s

/-- InvMixColumns (R555). -/
def invMixColumns (s : StateMatrix) : StateMatrix := matrixTimes invMixMatrix s

/-- MIX_COLUMNS (R559): `STATE <- MixColumns(STATE)`. -/
def execMixColumns (s : State) : Host.Outcome State Fault Refusal :=
  succeed (s.setState (mixColumns s.state))

/-- INV_MIX_COLUMNS (R560): `STATE <- InvMixColumns(STATE)`. -/
def execInvMixColumns (s : State) : Host.Outcome State Fault Refusal :=
  succeed (s.setState (invMixColumns s.state))

end Sys2Proof.Machine
end

