-- ==== Sys2Proof/Machine/ShiftRows.lean ====
section
/-! DEFINITION. ShiftRows, InvShiftRows and their commands (42_shiftrows.md R501 to R506). Column arithmetic is modulo 4,
which is addition and subtraction of `Fin 4`. -/

namespace Sys2Proof.Machine

/-- ShiftRows (R501): `s'[r, c] <- s[r, (c + r) mod 4]`. -/
def shiftRows (s : StateMatrix) : StateMatrix := StateMatrix.ofFn fun r c => s.cell r (c + r)

/-- InvShiftRows (R502): `s'[r, c] <- s[r, (c - r) mod 4]`. -/
def invShiftRows (s : StateMatrix) : StateMatrix := StateMatrix.ofFn fun r c => s.cell r (c - r)

/-- SHIFT_ROWS (R505): `STATE <- ShiftRows(STATE)`. -/
def execShiftRows (s : State) : Host.Outcome State Fault Refusal :=
  succeed (s.setState (shiftRows s.state))

/-- INV_SHIFT_ROWS (R506): `STATE <- InvShiftRows(STATE)`. -/
def execInvShiftRows (s : State) : Host.Outcome State Fault Refusal :=
  succeed (s.setState (invShiftRows s.state))

end Sys2Proof.Machine
end

