-- ==== Sys2Proof/Machine/Cipher.lean ====
section
/-! DEFINITION. The round sequences Cipher and InverseCipher and the commands ENCRYPT and DECRYPT (46_cipher.md R701 to
R710). They work on a State of their own (R705): the register STATE is neither read nor written. -/

namespace Sys2Proof.Machine

/-- The body of step 3 of R701: "SubBytes, ShiftRows, MixColumns, AddRoundKey(round)". -/
def cipherRound (w : Vector Word 60) (s : StateMatrix) (round : Nat) : StateMatrix :=
  addRoundKey (mixColumns (shiftRows (subBytes s))) w round

/-- Step 4 of R701, the final round: no MixColumns. -/
def cipherFinal (w : Vector Word 60) (s : StateMatrix) (nr : Nat) : StateMatrix :=
  addRoundKey (shiftRows (subBytes s)) w nr

/-- Cipher (R701); its rounds are 1 to Nr-1 and then the final round Nr. -/
def cipher (input : Vector Byte 16) (w : Vector Word 60) (nr : Nat) : Vector Byte 16 :=
  let start := addRoundKey (pack input) w 0
  let s := (List.range' 1 (nr - 1)).foldl (cipherRound w) start
  flatten (cipherFinal w s nr)

/-- The body of step 3 of R703: "InvShiftRows, InvSubBytes, AddRoundKey(round), InvMixColumns". -/
def inverseCipherRound (w : Vector Word 60) (s : StateMatrix) (round : Nat) : StateMatrix :=
  invMixColumns (addRoundKey (invSubBytes (invShiftRows s)) w round)

/-- Step 4 of R703: "InvShiftRows, InvSubBytes, AddRoundKey(round 0)". -/
def inverseCipherFinal (w : Vector Word 60) (s : StateMatrix) : StateMatrix :=
  addRoundKey (invSubBytes (invShiftRows s)) w 0

/-- InverseCipher (R703); its rounds are Nr-1 down to 1 and then the last. -/
def inverseCipher (input : Vector Byte 16) (w : Vector Word 60) (nr : Nat) : Vector Byte 16 :=
  let start := addRoundKey (pack input) w nr
  let s := (List.range' 1 (nr - 1)).reverse.foldl (inverseCipherRound w) start
  flatten (inverseCipherFinal w s)

/-- ENCRYPT (R709): INVALID_BLOCK_LENGTH, then NO_KEY_SCHEDULE, else DOUT takes `Cipher(DINBYTES, W, Nr(KSKT))`. -/
def execEncrypt (s : State) : Host.Outcome State Fault Refusal :=
  checked [s.blockLengthError, s.scheduleError] s (s.setDout (cipher s.dinBytes s.w s.kskt.nr))

/-- DECRYPT (R710): as ENCRYPT, with `InverseCipher`. -/
def execDecrypt (s : State) : Host.Outcome State Fault Refusal :=
  checked [s.blockLengthError, s.scheduleError] s (s.setDout (inverseCipher s.dinBytes s.w s.kskt.nr))

end Sys2Proof.Machine
end

