-- ==== Sys2Proof/Machine/Control.lean ====
section
/-! DEFINITION. NOP, LOAD_STATE and STORE_STATE (47_control.md R761 to R765). -/

namespace Sys2Proof.Machine

/-- NOP (R761): `STATUS.ERR <- OK`. -/
def execNop (s : State) : Host.Outcome State Fault Refusal := succeed s

/-- LOAD_STATE (R763): INVALID_BLOCK_LENGTH, else `STATE <- pack(DINBYTES)`. -/
def execLoadState (s : State) : Host.Outcome State Fault Refusal :=
  checked [s.blockLengthError] s (s.setState (pack s.dinBytes))

/-- STORE_STATE (R765): DOUT takes `flatten(STATE)`. -/
def execStoreState (s : State) : Host.Outcome State Fault Refusal :=
  succeed (s.setDout (flatten s.state))

end Sys2Proof.Machine
end

