-- ==== Sys2Proof/Machine/KeySchedule.lean ====
section
/-! DEFINITION. The key-schedule expansion and the command KEY_EXPAND (45_key_schedule.md R651 to R662). -/

namespace Sys2Proof.Machine

/-- RotWord (R651): `rotl32(w, 8)`. -/
def rotWord (w : Word) : Word := (w <<< 8) ||| (w >>> 24)

/-- SubWord (R652): the forward S-box on each byte. -/
def subWord (w : Word) : Word :=
  wordOf (sbox (byteOf w 0)) (sbox (byteOf w 1)) (sbox (byteOf w 2)) (sbox (byteOf w 3))

/-- `Rcon[j] = {x_time^(j-1)(0x01), 0x00, 0x00, 0x00}` for j ≥ 1 (R653); index 0 is never used (R654). -/
def rcon (j : Nat) : Word := wordOf (xTimeIter (j - 1) 0x01) 0 0 0

/-- `temp` of R655 at word i: word i-1, transformed as the recurrence says. -/
def expansionTemp (kt : KeyType) (i : Nat) (previous : Word) : Word :=
  if i % kt.nk = 0 then subWord (rotWord previous) ^^^ rcon (i / kt.nk)
  else if 6 < kt.nk ∧ i % kt.nk = 4 then subWord previous
  else previous

/-- One turn of the second loop of R655: `w[i] <- w[i-Nk] xor temp`. -/
def expandWord (kt : KeyType) (w : Vector Word 60) (i : Nat) : Vector Word 60 :=
  w.setIfInBounds i (scheduleWord w (i - kt.nk) ^^^ expansionTemp kt i (scheduleWord w (i - 1)))

/-- A key type has at most eight key words (R10). -/
theorem nk_le (kt : KeyType) : kt.nk ≤ 8 := by cases kt <;> decide

/-- The first loop of R655: words 0 to Nk-1 are the key. Every other word starts at 0, so the words beyond the schedule's
length stay 0 (R661). -/
def keyWords (kt : KeyType) (key : Vector Byte 32) : Vector Word 60 :=
  Vector.ofFn fun i =>
    if h : i.val < kt.nk then keyWord key ⟨i.val, Nat.lt_of_lt_of_le h (nk_le kt)⟩ else 0

/-- KeyExpansion (R655) as all sixty words of W (R661): i runs from Nk to 4·(Nr+1) - 1. -/
def keyExpansion (kt : KeyType) (key : Vector Byte 32) : Vector Word 60 :=
  (List.range' kt.nk (4 * (kt.nr + 1) - kt.nk)).foldl (expandWord kt) (keyWords kt key)

/-- KEY_EXPAND kt (R660): INVALID_KEY_LENGTH, else W, KSV and KSKT take the expansion of KEYBYTES. -/
def execKeyExpand (kt : KeyType) (s : State) : Host.Outcome State Fault Refusal :=
  checked [s.keyLengthError kt] s (s.setSchedule kt (keyExpansion kt s.keyBytes))

end Sys2Proof.Machine
end

