-- ==== Sys2Proof/Machine/Engine.lean ====
section
/-! DEFINITION. The engine's one kind of step (47_control.md R751, R752) and what each event of the schedule does
(20_memory.md R215, R210). -/

namespace Sys2Proof.Machine

/-- `Execute(v)` (R752): "ILLEGAL raises ILLEGAL_COMMAND; otherwise it runs the rule of the decoded command". Every command
ends in its commit (R755). -/
def execute (v : Word) (s : State) : Host.Outcome State Fault Refusal :=
  match decode v with
  | .illegal _ => raise .illegalCommand s
  | .instr i => exec i s

/-- A turn given to the engine: it executes the pending command, and "When PENDING is empty the engine has no step" (R751),
so that turn passes with no effect (DESIGN CHOICE, log entry 2). -/
def engineTurn (s : State) : Host.Outcome State Fault Refusal :=
  match s.pending with
  | some v => execute v s
  | none => .next s

/-- The rest of the machine when no event can happen: the engine finishes a pending command (R758); `stop` says why there is
no step when it has none. -/
def engineOrStop (stop : Host.Outcome State Fault Refusal) (s : State) : Host.Outcome State Fault Refusal :=
  match s.pending with
  | some v => execute v s
  | none => stop

/-- The next event `e` of the schedule, with `rest` after it. An access outside the interface is never made: the host is stuck
at it (R210), the schedule does not move, and only the engine can still step. -/
def eventStep (e : Event) (rest : List Event) (s : State) : Host.Outcome State Fault Refusal :=
  match e with
  | .engine => engineTurn { s with schedule := rest }
  | .reset => .next { s with schedule := rest }.platformReset
  | .hostRead a =>
    if a.defined then .next ({ s with schedule := rest }.hostRead a.offset)
    else engineOrStop (.fault .hostStuckOutsideInterface) s
  | .hostWrite a v =>
    if a.defined then .next ({ s with schedule := rest }.hostWrite a.offset v)
    else engineOrStop (.fault .hostStuckOutsideInterface) s

end Sys2Proof.Machine
end

