-- ==== Sys2Proof/Machine/Step.lean ====
section
/-! DEFINITION. One step of the machine: the next event of the one total order of 20_memory.md R215. -/

namespace Sys2Proof.Machine

/-- The next event of the schedule happens; with no event to come, the engine finishes the pending command (R751, R758). -/
def step (s : State) : Host.Outcome State Fault Refusal :=
  match s.schedule with
  | e :: rest => eventStep e rest s
  | [] => engineOrStop (.refused .noAgentHasAStep) s

/-- The state in which the command word of an opcode-table row has just been accepted and the next step is the engine's: what
an accepted CMD write leaves (R110), with the engine's turn next (log entry 8). An empty schedule needs no turn in it. -/
def State.withFetchWord (s : State) (nbits w : Nat) : State :=
  { s with
    pending := some (tableWord nbits w)
    schedule := if s.schedule = [] then [] else .engine :: s.schedule }

end Sys2Proof.Machine
end

