-- ==== Sys2Proof/Machine/HostProgram.lean ====
section
/-! DEFINITION. Host programs as events (30_encoding.md R309 to R311): `WR`, `RD`, `POLL` and `ISSUE`, the pseudo-instructions,
the step-mode sequences (46_cipher.md R711, R712) and the boot sequence (70_reset_and_hazards.md R921). How long a command
takes is open (R905), so whatever waits for one takes the number of STATUS reads that still see BUSY = 1. -/

namespace Sys2Proof.Machine

/-! ### Assembler text (R309) -/

/-- The names of the key types in the assembler (R309). -/
def keyTypeText (kt : KeyType) : String :=
  match kt with
  | .aes128 => "aes128"
  | .aes192 => "aes192"
  | .aes256 => "aes256"

/-- A byte as the assembler writes it, `0x` and two hexadecimal digits. -/
def byteText (b : Byte) : String := "0x" ++ b.toHex

/-- The assembler text of a command (R309). -/
def commandText : Instr → String
  | .nop => "NOP"
  | .keyExpand kt => "KEY_EXPAND " ++ keyTypeText kt
  | .encrypt => "ENCRYPT"
  | .decrypt => "DECRYPT"
  | .loadState => "LOAD_STATE"
  | .storeState => "STORE_STATE"
  | .subBytes => "SUB_BYTES"
  | .invSubBytes => "INV_SUB_BYTES"
  | .shiftRows => "SHIFT_ROWS"
  | .invShiftRows => "INV_SHIFT_ROWS"
  | .mixColumns => "MIX_COLUMNS"
  | .invMixColumns => "INV_MIX_COLUMNS"
  | .addRoundKey rnd => "ADD_ROUND_KEY " ++ toString rnd
  | .gfMul a b => "GF_MUL " ++ byteText a ++ ", " ++ byteText b

/-! ### Host operations (R310) -/

/-- `WR REG, v`. -/
def wr (r : Reg) (v : Word) : Event := .hostWrite ⟨r.offset, 32⟩ v

/-- `RD REG`. -/
def rd (r : Reg) : Event := .hostRead ⟨r.offset, 32⟩

/-- `POLL` when the pending command commits after `latency` reads of STATUS: those reads see BUSY = 1, the engine commits,
and the next read sees BUSY = 0 and ends the poll. -/
def poll (latency : Nat) : List Event :=
  List.replicate latency (rd .status) ++ [.engine, rd .status]

/-- `WR CMD, v` then `POLL`. -/
def issueWord (v : Word) (latency : Nat) : List Event := wr .cmd v :: poll latency

/-- `ISSUE cmd`. -/
def issue (i : Instr) (latency : Nat) : List Event := issueWord (encode i) latency

/-- `ISSUE` of each command of a list in turn; `latency k` is the k-th command's. -/
def issueAll : List Instr → (Nat → Nat) → List Event
  | [], _ => []
  | i :: rest, latency => issue i (latency 0) ++ issueAll rest fun k => latency (k + 1)

/-! ### Pseudo-instructions (R311) -/

/-- `ENC_ROUND r`. -/
def encRound (r : Nat) : List Instr := [.subBytes, .shiftRows, .mixColumns, .addRoundKey r]

/-- `ENC_FINAL r`. -/
def encFinal (r : Nat) : List Instr := [.subBytes, .shiftRows, .addRoundKey r]

/-- `DEC_ROUND r`. -/
def decRound (r : Nat) : List Instr := [.invShiftRows, .invSubBytes, .addRoundKey r, .invMixColumns]

/-- `DEC_FINAL`. -/
def decFinal : List Instr := [.invShiftRows, .invSubBytes, .addRoundKey 0]

/-- `GF_XTIME a`. -/
def gfXtime (a : Byte) : Instr := .gfMul a 0x02

/-- `GF_TIMES3 a`. -/
def gfTimes3 (a : Byte) : Instr := .gfMul a 0x03

/-- `SET_KEY kt, k`: KEYLEN and the Nk key registers. -/
def setKey (kt : KeyType) (key : Vector Byte 32) : List Event :=
  wr .keylen (BitVec.ofNat 32 (4 * kt.nk)) ::
    ((List.finRange 8).filter fun j => j.val < kt.nk).map fun j => wr (.key j) (keyWord key j)

/-- `SET_BLOCK b`: BLKLEN and the four input registers. -/
def setBlock (block : Vector Byte 16) : List Event :=
  wr .blklen 16 :: (List.finRange 4).map fun j => wr (.din j) (blockWords block)[j]

/-! ### Step mode and boot -/

/-- The step-mode encryption of R711 (R311). -/
def stepModeEncrypt (nr : Nat) : List Instr :=
  [.loadState, .addRoundKey 0] ++ (List.range' 1 (nr - 1)).flatMap encRound ++ encFinal nr ++ [.storeState]

/-- The step-mode decryption of R712. -/
def stepModeDecrypt (nr : Nat) : List Instr :=
  [.loadState, .addRoundKey nr] ++ (List.range' 1 (nr - 1)).reverse.flatMap decRound ++ decFinal ++ [.storeState]

/-- The boot sequence of R921 up to one block: steps 1 and 2 and 3, and the command of step 4; the two latencies are open. -/
def bootSequence (kt : KeyType) (key : Vector Byte 32) (block : Vector Byte 16) (i : Instr) (latency₁ latency₂ : Nat) :
    List Event :=
  setKey kt key ++ issue (.keyExpand kt) latency₁ ++ setBlock block ++ issue i latency₂

/-- The state in which the host is about to run a program. -/
def State.withProgram (s : State) (program : List Event) : State := { s with schedule := program }

end Sys2Proof.Machine
end

