-- ==== Sys2Proof/Safety.lean ====
section
/-! DEFINITION. The terms the statements use: the reset values, the invariant the core maintains, the host's side of the
interface, and the error a command word must report. -/

namespace Sys2Proof.Machine

/-! ### Reset (70_reset_and_hazards.md R901) -/

/-- Every row of the table of R901: PENDING empty, STATUS 0 field by field, and every register 0. -/
structure State.HasResetValues (s : State) : Prop where
  pending : s.pending = none
  ksv : s.ksv = false
  kskt : s.kskt.code = 0
  drop : s.drop = false
  err : s.err.code = 0
  status : s.statusWord = 0
  keylen : s.keylen = 0
  blklen : s.blklen = 0
  gfr : s.gfr = 0
  key : ∀ j : Fin 8, s.key[j] = 0
  din : ∀ j : Fin 4, s.din[j] = 0
  dout : ∀ j : Fin 4, s.dout[j] = 0
  state : ∀ r c : Fin 4, s.state.cell r c = 0
  w : ∀ i : Fin 60, s.w[i] = 0

/-! ### The invariant (10_state.md R123) -/

/-- With KSV = 1, W is the expansion of some key of type KSKT, its tail 0 (R123, R661); with KSV = 0, KSKT is 0 (R111, R123)
and W, which only a successful KEY_EXPAND writes (R121), still holds its reset value. -/
structure State.ScheduleInv (s : State) : Prop where
  valid : s.ksv = true → ∃ key : Vector Byte 32, s.w = keyExpansion s.kskt key
  absent : s.ksv = false → s.kskt.code = 0 ∧ ∀ i : Fin 60, s.w[i] = 0

/-! ### The host's side of the interface -/

/-- A host access the interface defines (20_memory.md R202). -/
def Event.isDefinedAccess : Event → Bool
  | .hostWrite a _ => a.defined
  | .hostRead a => a.defined
  | .engine => false
  | .reset => false

/-- An event a host that keeps to the interface allows: no access outside it (20_memory.md R210). -/
def Event.keepsInterface : Event → Bool
  | .hostWrite a _ => a.defined
  | .hostRead a => a.defined
  | .engine => true
  | .reset => true

/-- A host that keeps to the interface: every access to come is a defined one. -/
def State.hostKeepsInterface (s : State) : Bool := s.schedule.all Event.keepsInterface

/-- Some agent has a step: an event is to come or a command is pending (47_control.md R751). -/
def State.someAgentHasAStep (s : State) : Bool := !s.schedule.isEmpty || s.busy

/-- A run of the machine that stops nowhere within `n` steps. -/
def State.runsSafely (n : Nat) (s : State) : Prop := ∃ t, Host.Core.run core n s = .next t

/-! ### The error a command word must report (60_exceptions.md R802) -/

/-- R802 command by command: "KEY_EXPAND 4, 2; ENCRYPT and DECRYPT 4, 1, 3; LOAD_STATE 4, 1; ADD_ROUND_KEY 4, 3, 5; every
other command 4 only", in R801's numbers, and 0 for no error. -/
def State.expectedError (s : State) (v : Word) : BitVec 4 :=
  match decode v with
  | .illegal _ => 4
  | .instr (.keyExpand kt) => if s.keylen.toNat ≠ 4 * kt.nk then 2 else 0
  | .instr .encrypt => if s.blklen ≠ 16 then 1 else if s.ksv = false then 3 else 0
  | .instr .decrypt => if s.blklen ≠ 16 then 1 else if s.ksv = false then 3 else 0
  | .instr .loadState => if s.blklen ≠ 16 then 1 else 0
  | .instr (.addRoundKey rnd) => if s.ksv = false then 3 else if rnd > s.kskt.nr then 5 else 0
  | .instr .nop => 0
  | .instr .storeState => 0
  | .instr .subBytes => 0
  | .instr .invSubBytes => 0
  | .instr .shiftRows => 0
  | .instr .invShiftRows => 0
  | .instr .mixColumns => 0
  | .instr .invMixColumns => 0
  | .instr (.gfMul _ _) => 0

end Sys2Proof.Machine
end

