-- ==== Sys2Proof/Certificates/Slice0/Obligations.lean ====
section
/-! DEFINITION. The statements for the provers. Each docstring names the rules of spec/ it formalises. "The command ends"
means: `ERR` takes its code and PENDING becomes empty, in the same step (47_control.md R755). -/

open Sys2Proof Sys2Proof.Machine

/-! ### Encoding and decoding (30_encoding.md) -/

/-- R301, R303, R304, R309: every command an assembler accepts decodes back from its word, with every operand. -/
def Obligations.DecodeOfEncodeIsTheCommand : Prop :=
  ∀ i : Instr, i.wf = true → decode (encode i) = .instr i

/-- R304, R305: a word that decodes is the word of its command, so no bit of it is dropped, and the command is well formed. -/
def Obligations.EncodeOfDecodeIsTheWord : Prop :=
  ∀ (v : Word) (i : Instr), decode v = .instr i → i.wf = true ∧ encode i = v

/-- R303, R304, R306: the legal words are the eleven words without a field, KEY_EXPAND with KT 0 to 2, ADD_ROUND_KEY with any
RND, and GF_MUL with any A and B; every other word is ILLEGAL. -/
def Obligations.LegalWordsAreExactlyTheMap : Prop :=
  ∀ v : Word,
    (∃ i, decode v = .instr i) ↔
      (v = 0x00000000 ∨ v = 0x00000002 ∨ v = 0x00000003 ∨ v = 0x00000004 ∨ v = 0x00000005 ∨
        v = 0x00000008 ∨ v = 0x00000009 ∨ v = 0x0000000A ∨ v = 0x0000000B ∨ v = 0x0000000C ∨
        v = 0x0000000D) ∨
      (v &&& 0xFFFFFF3F = 0x00000001 ∧ v.extractLsb' 6 2 ≠ 3) ∨
      v &&& 0xFFFFF0FF = 0x0000000E ∨
      v &&& 0x0000FFFF = 0x00000010

/-- R301, R303, R309: a few words written out from the encoding tables decode to what they stand for. -/
def Obligations.SampleWordsDecodeAsTheMapSays : Prop :=
  decode 0x00000000 = .instr .nop ∧
  decode 0x00000081 = .instr (.keyExpand .aes256) ∧
  decode 0x000000C1 = .illegal .reservedKeyType ∧
  decode 0x00000003 = .instr .decrypt ∧
  decode 0x0000000A = .instr .shiftRows ∧
  decode 0x00000F0E = .instr (.addRoundKey 15) ∧
  decode 0x83570010 = .instr (.gfMul 0x57 0x83) ∧
  decode 0x0000004E = .illegal .nonzeroUnusedField ∧
  decode 0x0000000F = .illegal .unassignedOpcode

/-! ### The engine and the step (47_control.md) -/

/-- R751, R752: a step of the engine runs the decoded command, on the state the engine finds; with a turn in the schedule, that
turn is used up and nothing else moves. -/
def Obligations.StepRunsTheDecodedCommand : Prop :=
  ∀ (s : State) (v : Word) (i : Instr), s.pending = some v → decode v = .instr i →
    (s.schedule = [] → step s = exec i s) ∧
    (∀ rest, s.schedule = .engine :: rest → step s = exec i { s with schedule := rest })

/-- R304, R306, R752, R803: an illegal word ends as a command that fails with ILLEGAL_COMMAND and changes nothing else. -/
def Obligations.IllegalWordFailsAndChangesOnlyErr : Prop :=
  ∀ (s : State) (v : Word) (why : Illegal), s.pending = some v → decode v = .illegal why →
    (s.schedule = [] → step s = .next { s with err := .illegalCommand, pending := none }) ∧
    (∀ rest, s.schedule = .engine :: rest →
      step s = .next { s with schedule := rest, err := .illegalCommand, pending := none })

/-- R751: with PENDING empty the engine has no step. That the machine then answers a refusal when no event is to come, and passes
over a turn given to the engine, is the model's choice (log entry 2). -/
def Obligations.IdleEngineHasNoStep : Prop :=
  ∀ s : State, s.pending = none →
    (s.schedule = [] → step s = .refused .noAgentHasAStep) ∧
    (∀ rest, s.schedule = .engine :: rest → step s = .next { s with schedule := rest })

/-- R753, R755, R805: every command, in every state, answers a next state in which PENDING is empty. -/
def Obligations.EveryCommandEnds : Prop :=
  ∀ (i : Instr) (s : State), ∃ t, exec i s = .next t ∧ t.pending = none ∧ t.busy = false

/-- R751, R758: an accepted command completes whatever accesses the host makes meanwhile, if no reset comes first: after those
accesses and one more step PENDING is empty and ERR is the code R802 gives. -/
def Obligations.AcceptedCommandCompletes : Prop :=
  ∀ (s : State) (v : Word), s.pending = some v → s.schedule.all Event.isDefinedAccess = true →
    ∃ t, Host.Core.run core (s.schedule.length + 1) s = .next t ∧
      t.pending = none ∧ t.schedule = [] ∧ t.err.code = s.expectedError v

/-- R110, R216, R217, R905: from an idle core, a command written to CMD and then committed gives what executing it at once gives,
whatever host accesses come between acceptance and completion: all they can change is DROP (and what the host has read). -/
def Obligations.CommandSeesTheInputsAtAcceptance : Prop :=
  ∀ (s u : State) (v : Word) (accesses rest : List Event),
    s.pending = none → accesses.all Event.isDefinedAccess = true →
    s.schedule = wr .cmd v :: accesses ++ .engine :: rest →
    execute v s = .next u →
    ∃ drop observed draws,
      Host.Core.run core (accesses.length + 2) s =
        .next { u with drop := drop, schedule := rest, observed := observed, draws := draws }

/-- R111, R125, R217: a step that leaves the core busy with the same command changes no architectural state but DROP. -/
def Obligations.BusyStepChangesOnlyDrop : Prop :=
  ∀ s t : State, step s = .next t → s.busy = true → t.busy = true →
    t = { s with drop := t.drop, schedule := t.schedule, observed := t.observed, draws := t.draws }

/-! ### Errors (60_exceptions.md) -/

/-- R802: which error a command word reports, in the order of the checks; and the command ends. -/
def Obligations.FirstFailingCheckIsReported : Prop :=
  ∀ (s : State) (v : Word),
    ∃ t, execute v s = .next t ∧ t.err.code = s.expectedError v ∧ t.pending = none

/-- R803, R662: a command that fails writes ERR and nothing else. -/
def Obligations.FailedCommandChangesOnlyErr : Prop :=
  ∀ (v : Word) (s t : State), execute v s = .next t → t.err ≠ .ok →
    t = { s with err := t.err, pending := none }

/-! ### Which command writes what (10_state.md R128) -/

/-- R128, R767: no command writes KEY, KEYLEN, DIN, BLKLEN or DROP; W, KSV and KSKT, DOUT, STATE and GFR change only by the commands
R128 names, and only on success. -/
def Obligations.CommandsWriteOnlyTheirRegisters : Prop :=
  ∀ (i : Instr) (s t : State), exec i s = .next t →
    (t.key = s.key ∧ t.keylen = s.keylen ∧ t.din = s.din ∧ t.blklen = s.blklen ∧ t.drop = s.drop ∧
      t.schedule = s.schedule ∧ t.observed = s.observed ∧ t.draws = s.draws) ∧
    ((t.w ≠ s.w ∨ t.ksv ≠ s.ksv ∨ t.kskt ≠ s.kskt) → t.err = .ok ∧ ∃ kt, i = .keyExpand kt) ∧
    (t.dout ≠ s.dout → t.err = .ok ∧ (i = .encrypt ∨ i = .decrypt ∨ i = .storeState)) ∧
    (t.state ≠ s.state → t.err = .ok ∧
      (i = .loadState ∨ i = .subBytes ∨ i = .invSubBytes ∨ i = .shiftRows ∨ i = .invShiftRows ∨
        i = .mixColumns ∨ i = .invMixColumns ∨ ∃ rnd, i = .addRoundKey rnd)) ∧
    (t.gfr ≠ s.gfr → t.err = .ok ∧ ∃ a b, i = .gfMul a b)

/-! ### Host accesses (20_memory.md, 10_state.md) -/

/-- R102, R202: the register map gives each register its own offset, an aligned one of the window, and the platform reaches that
offset at AES_BASE + offset, whatever AES_BASE is. -/
def Obligations.RegisterMapIsOneToOne : Prop :=
  ∀ r : Reg, regAt r.offset = some r ∧ (Access.mk r.offset 32).defined = true ∧
    windowOffset r.address = some r.offset

/-- R203: a host read returns what the rule says at each offset, and changes no state of the core. Where it returns `ANY32`, "an
unconstrained 32-bit value", nothing is said of the value. -/
def Obligations.HostReadReturnsTheRegister : Prop :=
  ∀ (s : State) (off : Nat) (rest : List Event), off % 4 = 0 → off ≤ 0x1FC →
    s.schedule = .hostRead ⟨off, 32⟩ :: rest →
    ∃ value draws,
      step s = .next { s with schedule := rest, observed := value :: s.observed, draws := draws } ∧
      (off = 0x000 → value = 0) ∧
      (off = 0x004 → value =
        (s.err.code.setWidth 32 <<< 8) ||| (BitVec.ofBool s.drop).setWidth 32 <<< 4 |||
          s.kskt.code.setWidth 32 <<< 2 ||| (BitVec.ofBool s.ksv).setWidth 32 <<< 1 |||
          (BitVec.ofBool s.busy).setWidth 32) ∧
      (off = 0x008 → value = s.keylen.setWidth 32) ∧
      (off = 0x00C → value = s.blklen.setWidth 32) ∧
      (∀ j : Fin 8, off = 0x020 + 4 * j.val → value = s.key[j]) ∧
      (∀ j : Fin 4, off = 0x040 + 4 * j.val → value = s.din[j]) ∧
      (s.busy = false → off = 0x010 → value = s.gfr.setWidth 32) ∧
      (s.busy = false → ∀ j : Fin 4, off = 0x050 + 4 * j.val → value = s.dout[j]) ∧
      (s.busy = false → ∀ c : Fin 4, off = 0x060 + 4 * c.val → value = colword s.state c) ∧
      (s.busy = false → ∀ i : Fin 60, off = 0x100 + 4 * i.val → value = s.w[i]) ∧
      ((0x014 ≤ off ∧ off ≤ 0x01C ∨ 0x070 ≤ off ∧ off ≤ 0x0FC ∨ 0x1F0 ≤ off) → value = 0)

/-- R203, R912: while BUSY = 1 a read of GFR, DOUT, STATE or W returns a free value, a fresh draw at each read, and changes no register; a
read of any other offset, and every read while BUSY = 0, draws none. That the free value is `Config.any32` at a counter is the
model's choice (log entry 3). -/
def Obligations.BusyResultReadsDrawFreeValues : Prop :=
  ∀ (s : State) (off : Nat) (rest : List Event), off % 4 = 0 → off ≤ 0x1FC →
    s.schedule = .hostRead ⟨off, 32⟩ :: rest →
    (s.busy = true ∧ (off = 0x010 ∨ 0x050 ≤ off ∧ off ≤ 0x06C ∨ 0x100 ≤ off ∧ off ≤ 0x1EC) →
      step s = .next
        { s with schedule := rest, observed := Config.any32 s.draws :: s.observed, draws := s.draws + 1 }) ∧
    (¬ (s.busy = true ∧ (off = 0x010 ∨ 0x050 ≤ off ∧ off ≤ 0x06C ∨ 0x100 ≤ off ∧ off ≤ 0x1EC)) →
      ∃ value, step s = .next { s with schedule := rest, observed := value :: s.observed })

/-- R204: what a host write does at each offset, and that it does nothing else. -/
def Obligations.HostWriteDoesWhatItsOffsetSays : Prop :=
  ∀ (s : State) (off : Nat) (v : Word) (rest : List Event), off % 4 = 0 → off ≤ 0x1FC →
    s.schedule = .hostWrite ⟨off, 32⟩ v :: rest →
    (off = 0x000 → step s = .next
      (if s.busy then { s with schedule := rest, drop := true }
       else { s with schedule := rest, pending := some v })) ∧
    (off = 0x004 → step s = .next
      (if v.getLsbD 4 then { s with schedule := rest, drop := false } else { s with schedule := rest })) ∧
    (off = 0x008 → step s = .next
      (if s.busy then { s with schedule := rest, drop := true }
       else { s with schedule := rest, keylen := v.setWidth 8 })) ∧
    (off = 0x00C → step s = .next
      (if s.busy then { s with schedule := rest, drop := true }
       else { s with schedule := rest, blklen := v.setWidth 8 })) ∧
    (∀ j : Fin 8, off = 0x020 + 4 * j.val → step s = .next
      (if s.busy then { s with schedule := rest, drop := true }
       else { s with schedule := rest, key := s.key.set j.val v })) ∧
    (∀ j : Fin 4, off = 0x040 + 4 * j.val → step s = .next
      (if s.busy then { s with schedule := rest, drop := true }
       else { s with schedule := rest, din := s.din.set j.val v })) ∧
    ((0x010 ≤ off ∧ off ≤ 0x01C ∨ 0x050 ≤ off) → step s = .next { s with schedule := rest })

/-- R112: DROP is set by every write to CMD, KEYLEN, BLKLEN, KEY or DIN made while BUSY = 1, which does nothing else; and a step that
changes DROP is such a write, a write to STATUS with bit 4 set, or a reset; and those two clear it, BUSY or not. -/
def Obligations.DropMarksExactlyTheLostWrites : Prop :=
  (∀ (s : State) (r : Reg) (v : Word) (rest : List Event), s.busy = true →
    (r = .cmd ∨ r = .keylen ∨ r = .blklen ∨ (∃ j, r = .key j) ∨ ∃ j, r = .din j) →
    s.schedule = wr r v :: rest → step s = .next { s with schedule := rest, drop := true }) ∧
  (∀ s t : State, step s = .next t → t.drop ≠ s.drop →
    (t.drop = true ∧ s.busy = true ∧ ∃ r v rest, s.schedule = wr r v :: rest ∧
      (r = .cmd ∨ r = .keylen ∨ r = .blklen ∨ (∃ j, r = .key j) ∨ ∃ j, r = .din j)) ∨
    (t.drop = false ∧ ∃ v rest, s.schedule = wr .status v :: rest ∧ v.getLsbD 4 = true) ∨
    (t.drop = false ∧ ∃ rest, s.schedule = .reset :: rest)) ∧
  (∀ (s : State) (v : Word) (rest : List Event), v.getLsbD 4 = true → s.schedule = wr .status v :: rest →
    step s = .next { s with schedule := rest, drop := false }) ∧
  (∀ (s : State) (rest : List Event), s.schedule = .reset :: rest → ∃ t, step s = .next t ∧ t.drop = false)

/-- R210: at an access outside the interface the host is stuck. That a pending command is still finished first, and that the machine
then answers a fault, is the model's choice (log entry 6). -/
def Obligations.UndefinedAccessLeavesTheHostStuck : Prop :=
  ∀ (s : State) (a : Access) (rest : List Event), a.width ≠ 32 ∨ a.offset % 4 ≠ 0 ∨ 0x1FC < a.offset →
    (s.schedule = .hostRead a :: rest ∨ ∃ v, s.schedule = .hostWrite a v :: rest) →
    (s.pending = none → step s = .fault .hostStuckOutsideInterface) ∧
    (∀ v, s.pending = some v → step s = execute v s)

/-- R210, R753, R806: while the host keeps to the interface and some agent has a step, no step stops, and the host still keeps to it. -/
def Obligations.NoStopWhileTheHostKeepsTheInterface : Prop :=
  ∀ s : State, s.hostKeepsInterface = true → s.someAgentHasAStep = true →
    ∃ t, step s = .next t ∧ t.hostKeepsInterface = true

/-! ### Reset and the invariant (70_reset_and_hazards.md, 10_state.md R123) -/

/-- R901, R902: the state after reset, at the start and after a reset in any state, a pending command included; it satisfies the
invariant of R123. -/
def Obligations.ResetGivesEveryRegisterItsValue : Prop :=
  (State.reset.HasResetValues ∧ State.reset.ScheduleInv) ∧
  ∀ (s : State) (rest : List Event), s.schedule = .reset :: rest →
    ∃ t, step s = .next t ∧ t.HasResetValues ∧ t.ScheduleInv ∧ t.schedule = rest

/-- R901, R123: "The reset state satisfies the invariants of 10_state.md rule R123", in the model's form of them (log entry 16). -/
def Obligations.ScheduleInvHoldsAtReset : Prop :=
  State.reset.ScheduleInv

/-- R123, R121, R661: every step keeps the invariant: with KSV = 1, W is the expansion of some key of type KSKT, its tail 0. R123 marks
the invariant "[derived: ...]"; that W is all 0 while KSV = 0 is the model's inference (log entry 16). -/
def Obligations.EveryStepKeepsScheduleInv : Prop :=
  ∀ s t : State, s.ScheduleInv → step s = .next t → t.ScheduleInv

/-! ### State layout (00_scope.md) -/

/-- R15, R16: packing and flattening, entry by entry, and that each undoes the other, which R16 marks "[derived: ...]". -/
def Obligations.PackAndFlattenAreInverse : Prop :=
  (∀ (x : Vector Byte 16) (r c : Fin 4), (pack x).cell r c = x[r.val + 4 * c.val]) ∧
  (∀ (s : StateMatrix) (r c : Fin 4), (flatten s)[r.val + 4 * c.val] = s.cell r c) ∧
  (∀ x, flatten (pack x) = x) ∧
  (∀ s, pack (flatten s) = s)

/-- R12, R17: the column word has the column's bytes, and `setcol` sets one column and leaves the others. -/
def Obligations.ColumnWordsReadBackWhatIsSet : Prop :=
  (∀ (s : StateMatrix) (r c : Fin 4), byteOf (colword s c) r = s.cell r c) ∧
  (∀ (s : StateMatrix) (c c' : Fin 4) (w : Word),
    colword (setcol s c w) c' = if c' = c then w else colword s c')

/-! ### GF(2^8) and GF_MUL (40_finite_field.md) -/

/-- R402, R407: the laws of the field, all for every byte; R402 and R407 mark some of them "[derived: ...]". -/
def Obligations.FieldLaws : Prop :=
  (∀ x y, gfAdd x y = x ^^^ y) ∧ (∀ x y, gfAdd x y = gfAdd y x) ∧
  (∀ x y z, gfAdd (gfAdd x y) z = gfAdd x (gfAdd y z)) ∧ (∀ x, gfAdd x x = 0) ∧ (∀ x, gfAdd x 0 = x) ∧
  (∀ x, multiply x 1 = x) ∧ (∀ x, multiply x 0 = 0) ∧ (∀ y, multiply 0 y = 0) ∧
  (∀ x y, multiply x y = multiply y x) ∧
  (∀ x y z, multiply (multiply x y) z = multiply x (multiply y z)) ∧
  (∀ x y z, multiply x (gfAdd y z) = gfAdd (multiply x y) (multiply x z)) ∧
  (∀ x : Byte, x ≠ 0 → ∃ y, multiply x y = 1 ∧ ∀ y', multiply x y' = 1 → y' = y)

/-- R404, R405, R408: the 0x02 and 0x03 elements of the multiplier are `mul02` and `mul03`, and `x_time` loses no information. -/
def Obligations.BasisMultipliersAgree : Prop :=
  (∀ x, multiply x 0x02 = mul02 x ∧ multiply x 0x03 = mul03 x) ∧
  (∀ x y, xTime x = xTime y → x = y)

/-- R406, R409: GF_MUL ends in OK with GFR the xor, over the bits k of b that are 1, of `x_time^k(a)`, and changes nothing else. -/
def Obligations.GfMulLeavesTheProduct : Prop :=
  ∀ (a b : Byte) (s : State),
    exec (.gfMul a b) s = .next
      { s with
        gfr := (List.range 8).foldl (fun r k => if b.getLsbD k then r ^^^ xTimeIter k a else r) 0
        err := .ok
        pending := none }

/-! ### SubBytes (41_subbytes.md) -/

/-- R453 (its general-knowledge part, log entry 9): the forward table is the FIPS-197 construction the rule recomputes it from: with x the field inverse of b (0 for 0), bit i
of `SBOX[b]` is `x_i xor x_(i+4) xor x_(i+5) xor x_(i+6) xor x_(i+7) xor c_i`, indexes modulo 8, c = 0x63. -/
def Obligations.SboxIsInverseThenAffineMap : Prop :=
  ∀ b x : Byte, (multiply b x = 1 ∨ b = 0 ∧ x = 0) →
    ∀ i : Fin 8, (sbox b).getLsbD i.val =
      (x.getLsbD i.val ^^ x.getLsbD ((i.val + 4) % 8) ^^ x.getLsbD ((i.val + 5) % 8) ^^
        x.getLsbD ((i.val + 6) % 8) ^^ x.getLsbD ((i.val + 7) % 8) ^^ (0x63 : Byte).getLsbD i.val)

/-- R451, R452, R456: SubBytes and InvSubBytes act on each byte alone, at its own position, and undo each other on every State; SBOX has
no fixed and no opposite fixed point. The undoing of InvSubBytes and the last fact are inferences R456 marks "[derived: ...]", and the
table they rest on is R453's (log entry 9). -/
def Obligations.SubBytesAndInverseUndoEachOther : Prop :=
  (∀ (s : StateMatrix) (r c : Fin 4),
    (subBytes s).cell r c = sbox (s.cell r c) ∧ (invSubBytes s).cell r c = invSbox (s.cell r c)) ∧
  (∀ s, invSubBytes (subBytes s) = s) ∧ (∀ s, subBytes (invSubBytes s) = s) ∧
  (∀ b, sbox b ≠ b ∧ sbox b ≠ b ^^^ 0xFF)

/-- R451, R452, R459, R460: SUB_BYTES and INV_SUB_BYTES end in OK with every byte of STATE replaced at its own position, and change
nothing else. -/
def Obligations.SubBytesCommandsReplaceEveryByte : Prop :=
  ∀ s : State,
    (∃ t, exec .subBytes s = .next t ∧ (∀ r c, t.state.cell r c = sbox (s.state.cell r c)) ∧
      t = { s with state := t.state, err := .ok, pending := none }) ∧
    (∃ t, exec .invSubBytes s = .next t ∧ (∀ r c, t.state.cell r c = invSbox (s.state.cell r c)) ∧
      t = { s with state := t.state, err := .ok, pending := none })

/-! ### ShiftRows (42_shiftrows.md) -/

/-- R504, R505, R506: SHIFT_ROWS and INV_SHIFT_ROWS end in OK with the bytes of STATE moved as the position maps P and Q say, and change
nothing else. -/
def Obligations.ShiftRowsCommandsFollowThePositionMaps : Prop :=
  ∀ s : State,
    (∃ t, exec .shiftRows s = .next t ∧
      flatten t.state =
        (#v[0, 5, 10, 15, 4, 9, 14, 3, 8, 13, 2, 7, 12, 1, 6, 11] : Vector (Fin 16) 16).map
          (fun i => (flatten s.state)[i]) ∧
      t = { s with state := t.state, err := .ok, pending := none }) ∧
    (∃ t, exec .invShiftRows s = .next t ∧
      flatten t.state =
        (#v[0, 13, 10, 7, 4, 1, 14, 11, 8, 5, 2, 15, 12, 9, 6, 3] : Vector (Fin 16) 16).map
          (fun i => (flatten s.state)[i]) ∧
      t = { s with state := t.state, err := .ok, pending := none })

/-- R503: the laws of ShiftRows and InvShiftRows. -/
def Obligations.ShiftRowsLaws : Prop :=
  (∀ s, invShiftRows (shiftRows s) = s) ∧ (∀ s, shiftRows (invShiftRows s) = s) ∧
  (∀ s, shiftRows (shiftRows (shiftRows (shiftRows s))) = s) ∧
  (∀ s, shiftRows (subBytes s) = subBytes (shiftRows s)) ∧
  (∀ s, shiftRows (invSubBytes s) = invSubBytes (shiftRows s)) ∧
  (∀ s, invShiftRows (subBytes s) = subBytes (invShiftRows s)) ∧
  (∀ s, invShiftRows (invSubBytes s) = invSubBytes (invShiftRows s)) ∧
  (∀ (s : StateMatrix) (c : Fin 4), (shiftRows s).cell 0 c = s.cell 0 c)

/-! ### MixColumns (43_mixcolumns.md) -/

/-- R554: MixColumns in the 0x02/0x03 multiplier basis, for every State. -/
def Obligations.MixColumnsInTheBasisForm : Prop :=
  ∀ (s : StateMatrix) (c : Fin 4),
    (mixColumns s).cell 0 c = mul02 (s.cell 0 c) ^^^ mul03 (s.cell 1 c) ^^^ s.cell 2 c ^^^ s.cell 3 c ∧
    (mixColumns s).cell 1 c = s.cell 0 c ^^^ mul02 (s.cell 1 c) ^^^ mul03 (s.cell 2 c) ^^^ s.cell 3 c ∧
    (mixColumns s).cell 2 c = s.cell 0 c ^^^ s.cell 1 c ^^^ mul02 (s.cell 2 c) ^^^ mul03 (s.cell 3 c) ∧
    (mixColumns s).cell 3 c = mul03 (s.cell 0 c) ^^^ s.cell 1 c ^^^ s.cell 2 c ^^^ mul02 (s.cell 3 c)

/-- R556: MixColumns and InvMixColumns undo each other, both are linear over xor, and a column of four equal bytes is fixed by both. -/
def Obligations.MixColumnsLaws : Prop :=
  (∀ s, invMixColumns (mixColumns s) = s) ∧ (∀ s, mixColumns (invMixColumns s) = s) ∧
  (∀ (s t : StateMatrix) (r c : Fin 4),
    (mixColumns (StateMatrix.ofFn fun r c => s.cell r c ^^^ t.cell r c)).cell r c =
      (mixColumns s).cell r c ^^^ (mixColumns t).cell r c ∧
    (invMixColumns (StateMatrix.ofFn fun r c => s.cell r c ^^^ t.cell r c)).cell r c =
      (invMixColumns s).cell r c ^^^ (invMixColumns t).cell r c) ∧
  (∀ (s : StateMatrix) (c : Fin 4) (b : Byte), (∀ r, s.cell r c = b) →
    ∀ r, (mixColumns s).cell r c = b ∧ (invMixColumns s).cell r c = b)

/-- R553, R555, R559, R560: MIX_COLUMNS and INV_MIX_COLUMNS end in OK with every column of STATE multiplied by the matrix, said byte by
byte in sums of `x_time` powers, and change nothing else. Row i of each matrix is row 0 rotated right by i. -/
def Obligations.MixColumnsCommandsMultiplyEveryColumn : Prop :=
  ∀ s : State,
    (∃ t, exec .mixColumns s = .next t ∧
      (∀ i c : Fin 4, t.state.cell i c =
        xTime (s.state.cell i c) ^^^ (xTime (s.state.cell (i + 1) c) ^^^ s.state.cell (i + 1) c) ^^^
          s.state.cell (i + 2) c ^^^ s.state.cell (i + 3) c) ∧
      t = { s with state := t.state, err := .ok, pending := none }) ∧
    (∃ t, exec .invMixColumns s = .next t ∧
      (∀ i c : Fin 4, t.state.cell i c =
        (xTimeIter 3 (s.state.cell i c) ^^^ xTimeIter 2 (s.state.cell i c) ^^^ xTime (s.state.cell i c)) ^^^
          (xTimeIter 3 (s.state.cell (i + 1) c) ^^^ xTime (s.state.cell (i + 1) c) ^^^ s.state.cell (i + 1) c) ^^^
          (xTimeIter 3 (s.state.cell (i + 2) c) ^^^ xTimeIter 2 (s.state.cell (i + 2) c) ^^^ s.state.cell (i + 2) c) ^^^
          (xTimeIter 3 (s.state.cell (i + 3) c) ^^^ s.state.cell (i + 3) c)) ∧
      t = { s with state := t.state, err := .ok, pending := none })

/-! ### AddRoundKey (44_addroundkey.md) -/

/-- R601, R602: AddRoundKey byte by byte, and on column words as xor with the words of the slice; applied twice it restores the State;
an all-zero slice changes nothing. -/
def Obligations.AddRoundKeyLaws : Prop :=
  (∀ (s : StateMatrix) (w : Vector Word 60) (rnd : Nat) (r c : Fin 4),
    (addRoundKey s w rnd).cell r c = s.cell r c ^^^ byteOf (scheduleWord w (4 * rnd + c.val)) r) ∧
  (∀ (s : StateMatrix) (w : Vector Word 60) (rnd : Nat) (c : Fin 4),
    colword (addRoundKey s w rnd) c = colword s c ^^^ scheduleWord w (4 * rnd + c.val)) ∧
  (∀ (s : StateMatrix) (w : Vector Word 60) (rnd : Nat), addRoundKey (addRoundKey s w rnd) w rnd = s) ∧
  (∀ (s : StateMatrix) (w : Vector Word 60) (rnd : Nat),
    (∀ c : Fin 4, scheduleWord w (4 * rnd + c.val) = 0) → addRoundKey s w rnd = s)

/-- R604: ADD_ROUND_KEY n fails with NO_KEY_SCHEDULE, or with INVALID_ROUND for n above Nr, and otherwise ends in OK with word 4n + c of W
xored into column c of STATE and nothing else changed. -/
def Obligations.AddRoundKeyXorsTheSlice : Prop :=
  ∀ (rnd : Nat) (s : State),
    (s.ksv = false →
      exec (.addRoundKey rnd) s = .next { s with err := .noKeySchedule, pending := none }) ∧
    (s.ksv = true → s.kskt.nr < rnd →
      exec (.addRoundKey rnd) s = .next { s with err := .invalidRound, pending := none }) ∧
    (s.ksv = true → rnd ≤ s.kskt.nr →
      ∃ t, exec (.addRoundKey rnd) s = .next t ∧
        (∀ c : Fin 4, ∃ h : 4 * rnd + c.val < 60,
          colword t.state c = colword s.state c ^^^ s.w[4 * rnd + c.val]) ∧
        t = { s with state := t.state, err := .ok, pending := none })

/-! ### Key schedule (45_key_schedule.md) -/

/-- R651, R652: RotWord and SubWord on the four bytes of a word. -/
def Obligations.RotWordAndSubWordOnBytes : Prop :=
  (∀ w : Word, rotWord w = w.rotateLeft 8) ∧
  (∀ a0 a1 a2 a3, rotWord (wordOf a0 a1 a2 a3) = wordOf a1 a2 a3 a0) ∧
  (∀ a0 a1 a2 a3, subWord (wordOf a0 a1 a2 a3) = wordOf (sbox a0) (sbox a1) (sbox a2) (sbox a3))

/-- R653, R655, R656, R657, R661: words 0 to Nk-1 are the key, every later word of the schedule follows the recurrence, the Aes256 branch
included, and the words beyond the schedule are 0. -/
def Obligations.ExpansionFollowsTheRecurrence : Prop :=
  ∀ (kt : KeyType) (key : Vector Byte 32),
    (∀ i : Fin 8, i.val < kt.nk →
      scheduleWord (keyExpansion kt key) i.val =
        wordOf key[4 * i.val] key[4 * i.val + 1] key[4 * i.val + 2] key[4 * i.val + 3]) ∧
    (∀ i : Nat, kt.nk ≤ i → i < 4 * (kt.nr + 1) →
      scheduleWord (keyExpansion kt key) i =
        scheduleWord (keyExpansion kt key) (i - kt.nk) ^^^
          (if i % kt.nk = 0 then
            subWord (rotWord (scheduleWord (keyExpansion kt key) (i - 1))) ^^^
              wordOf (xTimeIter (i / kt.nk - 1) 0x01) 0x00 0x00 0x00
          else if kt.nk > 6 ∧ i % kt.nk = 4 then subWord (scheduleWord (keyExpansion kt key) (i - 1))
          else scheduleWord (keyExpansion kt key) (i - 1))) ∧
    (∀ i : Nat, 4 * (kt.nr + 1) ≤ i → i < 60 → scheduleWord (keyExpansion kt key) i = 0)

/-- R660, R661, R662, R115: KEY_EXPAND fails with INVALID_KEY_LENGTH and changes only ERR, or ends in OK with W the expansion of KEYBYTES, whose
first Nk words are KEY0..KEY(Nk-1), KSV 1 and KSKT its key type, and nothing else changed. -/
def Obligations.KeyExpandWritesTheSchedule : Prop :=
  ∀ (kt : KeyType) (s : State),
    (s.keylen.toNat ≠ 4 * kt.nk →
      exec (.keyExpand kt) s = .next { s with err := .invalidKeyLength, pending := none }) ∧
    (s.keylen.toNat = 4 * kt.nk →
      ∃ t, exec (.keyExpand kt) s = .next t ∧
        t.w = keyExpansion kt s.keyBytes ∧
        (∀ j : Fin 8, j.val < kt.nk → t.w[j.val] = s.key[j]) ∧
        t = { s with w := t.w, ksv := true, kskt := kt, err := .ok, pending := none })

/-- R660: KEY_EXPAND depends on KEYLEN and the first Nk key registers only: "key bytes beyond 4·Nk in KEY are ignored". -/
def Obligations.KeyExpandIgnoresTheKeyTail : Prop :=
  ∀ (kt : KeyType) (s s' t t' : State), s.keylen = s'.keylen →
    (∀ j : Fin 8, j.val < kt.nk → s.key[j] = s'.key[j]) →
    exec (.keyExpand kt) s = .next t → exec (.keyExpand kt) s' = .next t' →
    t.err = t'.err ∧ (t.err = .ok → t.w = t'.w ∧ t.ksv = t'.ksv ∧ t.kskt = t'.kskt)

/-! ### Cipher, ENCRYPT and DECRYPT (46_cipher.md) -/

/-- R704: decryption undoes encryption and encryption undoes decryption, for every block, every W and every round count. R704 marks the
second, and the reach to any W, "[derived: ...]". The inverse S-box rests on the tables of log entry 9; a round count above 14 is
about the functions alone, where `scheduleWord` reads 0 beyond W59 (log entry 12). -/
def Obligations.CipherRoundTrip : Prop :=
  ∀ (p : Vector Byte 16) (w : Vector Word 60) (nr : Nat),
    inverseCipher (cipher p w nr) w nr = p ∧ cipher (inverseCipher p w nr) w nr = p

/-- R709, R117: ENCRYPT fails with INVALID_BLOCK_LENGTH, then with NO_KEY_SCHEDULE, and otherwise ends in OK with DOUT the words of
`Cipher(DINBYTES, W, Nr(KSKT))` and nothing else changed: STATE and DIN are as they were. -/
def Obligations.EncryptWritesDout : Prop :=
  ∀ s : State,
    (s.blklen ≠ 16 → exec .encrypt s = .next { s with err := .invalidBlockLength, pending := none }) ∧
    (s.blklen = 16 → s.ksv = false →
      exec .encrypt s = .next { s with err := .noKeySchedule, pending := none }) ∧
    (s.blklen = 16 → s.ksv = true →
      ∃ t, exec .encrypt s = .next t ∧
        (∀ (j r : Fin 4), byteOf t.dout[j] r = (cipher s.dinBytes s.w s.kskt.nr)[4 * j.val + r.val]) ∧
        t = { s with dout := t.dout, err := .ok, pending := none })

/-- R710, R117: DECRYPT as ENCRYPT, with InverseCipher. -/
def Obligations.DecryptWritesDout : Prop :=
  ∀ s : State,
    (s.blklen ≠ 16 → exec .decrypt s = .next { s with err := .invalidBlockLength, pending := none }) ∧
    (s.blklen = 16 → s.ksv = false →
      exec .decrypt s = .next { s with err := .noKeySchedule, pending := none }) ∧
    (s.blklen = 16 → s.ksv = true →
      ∃ t, exec .decrypt s = .next t ∧
        (∀ (j r : Fin 4), byteOf t.dout[j] r = (inverseCipher s.dinBytes s.w s.kskt.nr)[4 * j.val + r.val]) ∧
        t = { s with dout := t.dout, err := .ok, pending := none })

/-- R704, R709, R710: on the machine, with the output copied to the input, DECRYPT undoes ENCRYPT and ENCRYPT undoes DECRYPT, in every
state with a schedule. R704 marks the second direction "[derived: ...]", and the inverse S-box rests on the tables of log entry 9. -/
def Obligations.DecryptAfterEncryptRestoresTheBlock : Prop :=
  ∀ s : State, s.blklen = 16 → s.ksv = true →
    (∃ t u, exec .encrypt s = .next t ∧ exec .decrypt { t with din := t.dout } = .next u ∧ u.dout = s.din) ∧
    (∃ t u, exec .decrypt s = .next t ∧ exec .encrypt { t with din := t.dout } = .next u ∧ u.dout = s.din)

/-- R705, R706: what ENCRYPT and DECRYPT leave in DOUT and ERR depends on BLKLEN, DIN, KSV, KSKT and W only: two states that agree on these
and differ anywhere else, the key registers and STATE included, get the same, unless the command fails. -/
def Obligations.BlockCommandsDependOnInputAndSchedule : Prop :=
  ∀ (i : Instr) (s s' t t' : State), i = .encrypt ∨ i = .decrypt →
    s.blklen = s'.blklen → s.din = s'.din → s.ksv = s'.ksv → s.kskt = s'.kskt → s.w = s'.w →
    exec i s = .next t → exec i s' = .next t' →
    t.err = t'.err ∧ (t.err = .ok → t.dout = t'.dout)

/-! ### NOP, LOAD_STATE, STORE_STATE (47_control.md) -/

/-- R761: NOP ends in OK, which clears a stale error code, and changes nothing else; its word is 0, and every other word with OP = 0x00
fails with ILLEGAL_COMMAND. -/
def Obligations.NopClearsErrAndNothingElse : Prop :=
  ∀ s : State,
    exec .nop s = .next { s with err := .ok, pending := none } ∧
    ∀ v : Word, v.extractLsb' 0 6 = 0x00 →
      execute v s = .next { s with err := if v = 0 then .ok else .illegalCommand, pending := none }

/-- R763, R116: LOAD_STATE fails with INVALID_BLOCK_LENGTH, or ends in OK with column c of STATE equal to DINc and nothing else changed. -/
def Obligations.LoadStateCopiesDinToTheColumns : Prop :=
  ∀ s : State,
    (s.blklen ≠ 16 → exec .loadState s = .next { s with err := .invalidBlockLength, pending := none }) ∧
    (s.blklen = 16 →
      ∃ t, exec .loadState s = .next t ∧ (∀ c : Fin 4, colword t.state c = s.din[c]) ∧
        t.state = pack s.dinBytes ∧
        t = { s with state := t.state, err := .ok, pending := none })

/-- R765: STORE_STATE ends in OK with DOUTj equal to column j of STATE and nothing else changed. -/
def Obligations.StoreStateCopiesTheColumnsToDout : Prop :=
  ∀ s : State,
    ∃ t, exec .storeState s = .next t ∧ (∀ j : Fin 4, t.dout[j] = colword s.state j) ∧
      t = { s with dout := t.dout, err := .ok, pending := none }

/-! ### Whole sequences (46_cipher.md R711, R712, 70_reset_and_hazards.md R921) -/

/-- R711: issued one by one with any latencies, the step-mode commands leave in DOUT exactly what ENCRYPT leaves, `pack` of that output in
STATE, and ERR = OK. -/
def Obligations.StepModeReproducesEncrypt : Prop :=
  ∀ (s u : State) (latency : Nat → Nat), s.pending = none → s.ksv = true → s.blklen = 16 →
    exec .encrypt s = .next u →
    ∃ t, Host.Core.run core (issueAll (stepModeEncrypt s.kskt.nr) latency).length
        (s.withProgram (issueAll (stepModeEncrypt s.kskt.nr) latency)) = .next t ∧
      t.dout = u.dout ∧ t.state = pack (cipher s.dinBytes s.w s.kskt.nr) ∧
      t.err = .ok ∧ t.pending = none ∧ t.schedule = []

/-- R712: likewise for DECRYPT. -/
def Obligations.StepModeReproducesDecrypt : Prop :=
  ∀ (s u : State) (latency : Nat → Nat), s.pending = none → s.ksv = true → s.blklen = 16 →
    exec .decrypt s = .next u →
    ∃ t, Host.Core.run core (issueAll (stepModeDecrypt s.kskt.nr) latency).length
        (s.withProgram (issueAll (stepModeDecrypt s.kskt.nr) latency)) = .next t ∧
      t.dout = u.dout ∧ t.state = pack (inverseCipher s.dinBytes s.w s.kskt.nr) ∧
      t.err = .ok ∧ t.pending = none ∧ t.schedule = []

/-- R921, R701, R703, R655: from reset, the boot sequence under any key type, key, block and latencies leaves in DOUT the cipher of the block
under the expansion of the key, or its inverse cipher, with ERR = OK, KSV = 1 and KSKT the key type. -/
def Obligations.BootSequenceEncryptsAndDecrypts : Prop :=
  ∀ (kt : KeyType) (key : Vector Byte 32) (block : Vector Byte 16) (l₁ l₂ : Nat),
    (∃ t, Host.Core.run core (bootSequence kt key block .encrypt l₁ l₂).length
        (State.reset.withProgram (bootSequence kt key block .encrypt l₁ l₂)) = .next t ∧
      t.dout = blockWords (cipher block (keyExpansion kt key) kt.nr) ∧
      t.err = .ok ∧ t.ksv = true ∧ t.kskt = kt ∧ t.pending = none) ∧
    (∃ t, Host.Core.run core (bootSequence kt key block .decrypt l₁ l₂).length
        (State.reset.withProgram (bootSequence kt key block .decrypt l₁ l₂)) = .next t ∧
      t.dout = blockWords (inverseCipher block (keyExpansion kt key) kt.nr) ∧
      t.err = .ok ∧ t.ksv = true ∧ t.kskt = kt ∧ t.pending = none)
end

