-- ==== Sys2Proof/Laws/Decode.lean ====
section
/-! SUPPORT. The fields of a word laid out by `cmd32` are the ones it was given. -/

namespace Sys2Proof

section
variable (op : BitVec 6) (kt : BitVec 2) (rnd : BitVec 4) (a b : Byte)

theorem opField_cmd32 : opField (cmd32 op kt rnd a b) = op := by
  apply BitVec.eq_of_getLsbD_eq
  intro i hi
  simp only [opField, cmd32, BitVec.getLsbD_extractLsb', BitVec.getLsbD_append]
  interval_cases i <;> simp

theorem ktField_cmd32 : ktField (cmd32 op kt rnd a b) = kt := by
  apply BitVec.eq_of_getLsbD_eq
  intro i hi
  simp only [ktField, cmd32, BitVec.getLsbD_extractLsb', BitVec.getLsbD_append]
  interval_cases i <;> simp

theorem rndField_cmd32 : rndField (cmd32 op kt rnd a b) = rnd.toNat := by
  refine congrArg BitVec.toNat (BitVec.eq_of_getLsbD_eq ?_)
  intro i hi
  simp only [cmd32, BitVec.getLsbD_extractLsb', BitVec.getLsbD_append]
  interval_cases i <;> simp

theorem aField_cmd32 : aField (cmd32 op kt rnd a b) = a := by
  apply BitVec.eq_of_getLsbD_eq
  intro i hi
  simp only [aField, cmd32, BitVec.getLsbD_extractLsb', BitVec.getLsbD_append]
  interval_cases i <;> simp

theorem bField_cmd32 : bField (cmd32 op kt rnd a b) = b := by
  apply BitVec.eq_of_getLsbD_eq
  intro i hi
  simp only [bField, cmd32, BitVec.getLsbD_extractLsb', BitVec.getLsbD_append]
  interval_cases i <;> simp

end

/-- The KT codes read back (R10). -/
theorem KeyType.ofCode_code (kt : KeyType) : KeyType.ofCode kt.code = some kt := by
  cases kt <;> rfl

/-- A KT field that names a key type is that key type's code, so it is not 3. -/
theorem KeyType.code_of_ofCode {c : BitVec 2} {kt : KeyType} (h : KeyType.ofCode c = some kt) : kt.code = c := by
  unfold KeyType.ofCode at h
  split at h
  · cases h; simp_all [KeyType.code]
  · split at h
    · cases h; simp_all [KeyType.code]
    · split at h
      · cases h; simp_all [KeyType.code]
      · cases h

/-- What the decoder can answer (R304): no row, a bit outside the row's fields, or the row's command. -/
theorem decode_cases (v : Word) :
    (rowOfOpcode (opField v) = none ∧ decode v = .illegal .unassignedOpcode) ∨
    ∃ row, rowOfOpcode (opField v) = some row ∧
      ((v &&& row.mask ≠ row.matchWord ∧ decode v = .illegal .nonzeroUnusedField) ∨
        (v &&& row.mask = row.matchWord ∧ decode v = commandOf row.name v)) := by
  unfold decode
  cases h : rowOfOpcode (opField v) with
  | none => exact .inl ⟨rfl, rfl⟩
  | some row =>
    refine .inr ⟨row, rfl, ?_⟩
    by_cases hm : v &&& row.mask = row.matchWord
    · exact .inr ⟨hm, by simp [hm]⟩
    · exact .inl ⟨hm, by simp [hm]⟩

/-- "the OP values of the rows are distinct" (R304). -/
theorem opcodeMap_opcodes_nodup : (opcodeMap.map OpcodeRow.opcode).Nodup := by decide

/-- A row is found under its own opcode, and only there. -/
theorem rowOfOpcode_some {op : BitVec 6} {row : OpcodeRow} (h : rowOfOpcode op = some row) :
    row ∈ opcodeMap ∧ row.opcode = op :=
  ⟨List.mem_of_find?_eq_some h, by simpa using List.find?_some h⟩

end Sys2Proof
end

