-- ==== Sys2Proof/Laws/State.lean ====
section
/-! SUPPORT. One lemma for each field and each named update of State, so that no proof unfolds an update. -/

namespace Sys2Proof.Machine

/-! ### `State.commit` -/

section
variable (s : State) (code : ErrCode)

@[simp] theorem State.commit_pending : (s.commit code).pending = none := rfl
@[simp] theorem State.commit_ksv : (s.commit code).ksv = s.ksv := rfl
@[simp] theorem State.commit_kskt : (s.commit code).kskt = s.kskt := rfl
@[simp] theorem State.commit_drop : (s.commit code).drop = s.drop := rfl
@[simp] theorem State.commit_err : (s.commit code).err = code := rfl
@[simp] theorem State.commit_keylen : (s.commit code).keylen = s.keylen := rfl
@[simp] theorem State.commit_blklen : (s.commit code).blklen = s.blklen := rfl
@[simp] theorem State.commit_gfr : (s.commit code).gfr = s.gfr := rfl
@[simp] theorem State.commit_key : (s.commit code).key = s.key := rfl
@[simp] theorem State.commit_din : (s.commit code).din = s.din := rfl
@[simp] theorem State.commit_dout : (s.commit code).dout = s.dout := rfl
@[simp] theorem State.commit_state : (s.commit code).state = s.state := rfl
@[simp] theorem State.commit_w : (s.commit code).w = s.w := rfl
@[simp] theorem State.commit_schedule : (s.commit code).schedule = s.schedule := rfl
@[simp] theorem State.commit_observed : (s.commit code).observed = s.observed := rfl
@[simp] theorem State.commit_draws : (s.commit code).draws = s.draws := rfl

end

/-! ### `State.setState` -/

section
variable (s : State) (m : StateMatrix)

@[simp] theorem State.setState_pending : (s.setState m).pending = s.pending := rfl
@[simp] theorem State.setState_ksv : (s.setState m).ksv = s.ksv := rfl
@[simp] theorem State.setState_kskt : (s.setState m).kskt = s.kskt := rfl
@[simp] theorem State.setState_drop : (s.setState m).drop = s.drop := rfl
@[simp] theorem State.setState_err : (s.setState m).err = s.err := rfl
@[simp] theorem State.setState_keylen : (s.setState m).keylen = s.keylen := rfl
@[simp] theorem State.setState_blklen : (s.setState m).blklen = s.blklen := rfl
@[simp] theorem State.setState_gfr : (s.setState m).gfr = s.gfr := rfl
@[simp] theorem State.setState_key : (s.setState m).key = s.key := rfl
@[simp] theorem State.setState_din : (s.setState m).din = s.din := rfl
@[simp] theorem State.setState_dout : (s.setState m).dout = s.dout := rfl
@[simp] theorem State.setState_state : (s.setState m).state = m := rfl
@[simp] theorem State.setState_w : (s.setState m).w = s.w := rfl
@[simp] theorem State.setState_schedule : (s.setState m).schedule = s.schedule := rfl
@[simp] theorem State.setState_observed : (s.setState m).observed = s.observed := rfl
@[simp] theorem State.setState_draws : (s.setState m).draws = s.draws := rfl

end

/-! ### `State.setDout` -/

section
variable (s : State) (out : Vector Byte 16)

@[simp] theorem State.setDout_pending : (s.setDout out).pending = s.pending := rfl
@[simp] theorem State.setDout_ksv : (s.setDout out).ksv = s.ksv := rfl
@[simp] theorem State.setDout_kskt : (s.setDout out).kskt = s.kskt := rfl
@[simp] theorem State.setDout_drop : (s.setDout out).drop = s.drop := rfl
@[simp] theorem State.setDout_err : (s.setDout out).err = s.err := rfl
@[simp] theorem State.setDout_keylen : (s.setDout out).keylen = s.keylen := rfl
@[simp] theorem State.setDout_blklen : (s.setDout out).blklen = s.blklen := rfl
@[simp] theorem State.setDout_gfr : (s.setDout out).gfr = s.gfr := rfl
@[simp] theorem State.setDout_key : (s.setDout out).key = s.key := rfl
@[simp] theorem State.setDout_din : (s.setDout out).din = s.din := rfl
@[simp] theorem State.setDout_dout : (s.setDout out).dout = blockWords out := rfl
@[simp] theorem State.setDout_state : (s.setDout out).state = s.state := rfl
@[simp] theorem State.setDout_w : (s.setDout out).w = s.w := rfl
@[simp] theorem State.setDout_schedule : (s.setDout out).schedule = s.schedule := rfl
@[simp] theorem State.setDout_observed : (s.setDout out).observed = s.observed := rfl
@[simp] theorem State.setDout_draws : (s.setDout out).draws = s.draws := rfl

end

/-! ### `State.setGfr` -/

section
variable (s : State) (b : Byte)

@[simp] theorem State.setGfr_pending : (s.setGfr b).pending = s.pending := rfl
@[simp] theorem State.setGfr_ksv : (s.setGfr b).ksv = s.ksv := rfl
@[simp] theorem State.setGfr_kskt : (s.setGfr b).kskt = s.kskt := rfl
@[simp] theorem State.setGfr_drop : (s.setGfr b).drop = s.drop := rfl
@[simp] theorem State.setGfr_err : (s.setGfr b).err = s.err := rfl
@[simp] theorem State.setGfr_keylen : (s.setGfr b).keylen = s.keylen := rfl
@[simp] theorem State.setGfr_blklen : (s.setGfr b).blklen = s.blklen := rfl
@[simp] theorem State.setGfr_gfr : (s.setGfr b).gfr = b := rfl
@[simp] theorem State.setGfr_key : (s.setGfr b).key = s.key := rfl
@[simp] theorem State.setGfr_din : (s.setGfr b).din = s.din := rfl
@[simp] theorem State.setGfr_dout : (s.setGfr b).dout = s.dout := rfl
@[simp] theorem State.setGfr_state : (s.setGfr b).state = s.state := rfl
@[simp] theorem State.setGfr_w : (s.setGfr b).w = s.w := rfl
@[simp] theorem State.setGfr_schedule : (s.setGfr b).schedule = s.schedule := rfl
@[simp] theorem State.setGfr_observed : (s.setGfr b).observed = s.observed := rfl
@[simp] theorem State.setGfr_draws : (s.setGfr b).draws = s.draws := rfl

end

/-! ### `State.setSchedule` -/

section
variable (s : State) (kt : KeyType) (w : Vector Word 60)

@[simp] theorem State.setSchedule_pending : (s.setSchedule kt w).pending = s.pending := rfl
@[simp] theorem State.setSchedule_ksv : (s.setSchedule kt w).ksv = true := rfl
@[simp] theorem State.setSchedule_kskt : (s.setSchedule kt w).kskt = kt := rfl
@[simp] theorem State.setSchedule_drop : (s.setSchedule kt w).drop = s.drop := rfl
@[simp] theorem State.setSchedule_err : (s.setSchedule kt w).err = s.err := rfl
@[simp] theorem State.setSchedule_keylen : (s.setSchedule kt w).keylen = s.keylen := rfl
@[simp] theorem State.setSchedule_blklen : (s.setSchedule kt w).blklen = s.blklen := rfl
@[simp] theorem State.setSchedule_gfr : (s.setSchedule kt w).gfr = s.gfr := rfl
@[simp] theorem State.setSchedule_key : (s.setSchedule kt w).key = s.key := rfl
@[simp] theorem State.setSchedule_din : (s.setSchedule kt w).din = s.din := rfl
@[simp] theorem State.setSchedule_dout : (s.setSchedule kt w).dout = s.dout := rfl
@[simp] theorem State.setSchedule_state : (s.setSchedule kt w).state = s.state := rfl
@[simp] theorem State.setSchedule_w : (s.setSchedule kt w).w = w := rfl
@[simp] theorem State.setSchedule_schedule : (s.setSchedule kt w).schedule = s.schedule := rfl
@[simp] theorem State.setSchedule_observed : (s.setSchedule kt w).observed = s.observed := rfl
@[simp] theorem State.setSchedule_draws : (s.setSchedule kt w).draws = s.draws := rfl

end

/-! ### `State.hostRead` -/

section
variable (s : State) (off : Nat)

@[simp] theorem State.hostRead_pending : (s.hostRead off).pending = s.pending := rfl
@[simp] theorem State.hostRead_ksv : (s.hostRead off).ksv = s.ksv := rfl
@[simp] theorem State.hostRead_kskt : (s.hostRead off).kskt = s.kskt := rfl
@[simp] theorem State.hostRead_drop : (s.hostRead off).drop = s.drop := rfl
@[simp] theorem State.hostRead_err : (s.hostRead off).err = s.err := rfl
@[simp] theorem State.hostRead_keylen : (s.hostRead off).keylen = s.keylen := rfl
@[simp] theorem State.hostRead_blklen : (s.hostRead off).blklen = s.blklen := rfl
@[simp] theorem State.hostRead_gfr : (s.hostRead off).gfr = s.gfr := rfl
@[simp] theorem State.hostRead_key : (s.hostRead off).key = s.key := rfl
@[simp] theorem State.hostRead_din : (s.hostRead off).din = s.din := rfl
@[simp] theorem State.hostRead_dout : (s.hostRead off).dout = s.dout := rfl
@[simp] theorem State.hostRead_state : (s.hostRead off).state = s.state := rfl
@[simp] theorem State.hostRead_w : (s.hostRead off).w = s.w := rfl
@[simp] theorem State.hostRead_schedule : (s.hostRead off).schedule = s.schedule := rfl
@[simp] theorem State.hostRead_observed : (s.hostRead off).observed = s.readValue off :: s.observed := rfl
@[simp] theorem State.hostRead_draws : (s.hostRead off).draws = (if s.readIsUnspecified off then s.draws + 1 else s.draws) := rfl

end

/-! ### `State.platformReset` -/

section
variable (s : State)

@[simp] theorem State.platformReset_pending : (s.platformReset).pending = State.reset.pending := rfl
@[simp] theorem State.platformReset_ksv : (s.platformReset).ksv = State.reset.ksv := rfl
@[simp] theorem State.platformReset_kskt : (s.platformReset).kskt = State.reset.kskt := rfl
@[simp] theorem State.platformReset_drop : (s.platformReset).drop = State.reset.drop := rfl
@[simp] theorem State.platformReset_err : (s.platformReset).err = State.reset.err := rfl
@[simp] theorem State.platformReset_keylen : (s.platformReset).keylen = State.reset.keylen := rfl
@[simp] theorem State.platformReset_blklen : (s.platformReset).blklen = State.reset.blklen := rfl
@[simp] theorem State.platformReset_gfr : (s.platformReset).gfr = State.reset.gfr := rfl
@[simp] theorem State.platformReset_key : (s.platformReset).key = State.reset.key := rfl
@[simp] theorem State.platformReset_din : (s.platformReset).din = State.reset.din := rfl
@[simp] theorem State.platformReset_dout : (s.platformReset).dout = State.reset.dout := rfl
@[simp] theorem State.platformReset_state : (s.platformReset).state = State.reset.state := rfl
@[simp] theorem State.platformReset_w : (s.platformReset).w = State.reset.w := rfl
@[simp] theorem State.platformReset_schedule : (s.platformReset).schedule = s.schedule := rfl
@[simp] theorem State.platformReset_observed : (s.platformReset).observed = s.observed := rfl
@[simp] theorem State.platformReset_draws : (s.platformReset).draws = s.draws := rfl

end

/-! ### `State.withProgram` -/

section
variable (s : State) (program : List Event)

@[simp] theorem State.withProgram_pending : (s.withProgram program).pending = s.pending := rfl
@[simp] theorem State.withProgram_ksv : (s.withProgram program).ksv = s.ksv := rfl
@[simp] theorem State.withProgram_kskt : (s.withProgram program).kskt = s.kskt := rfl
@[simp] theorem State.withProgram_drop : (s.withProgram program).drop = s.drop := rfl
@[simp] theorem State.withProgram_err : (s.withProgram program).err = s.err := rfl
@[simp] theorem State.withProgram_keylen : (s.withProgram program).keylen = s.keylen := rfl
@[simp] theorem State.withProgram_blklen : (s.withProgram program).blklen = s.blklen := rfl
@[simp] theorem State.withProgram_gfr : (s.withProgram program).gfr = s.gfr := rfl
@[simp] theorem State.withProgram_key : (s.withProgram program).key = s.key := rfl
@[simp] theorem State.withProgram_din : (s.withProgram program).din = s.din := rfl
@[simp] theorem State.withProgram_dout : (s.withProgram program).dout = s.dout := rfl
@[simp] theorem State.withProgram_state : (s.withProgram program).state = s.state := rfl
@[simp] theorem State.withProgram_w : (s.withProgram program).w = s.w := rfl
@[simp] theorem State.withProgram_schedule : (s.withProgram program).schedule = program := rfl
@[simp] theorem State.withProgram_observed : (s.withProgram program).observed = s.observed := rfl
@[simp] theorem State.withProgram_draws : (s.withProgram program).draws = s.draws := rfl

end

end Sys2Proof.Machine
end

