-- ==== Sys2Proof/Laws/Matrix.lean ====
section
/-! SUPPORT. Entries of State matrices and bytes of words. -/

namespace Sys2Proof.Machine

@[simp] theorem StateMatrix.cell_ofFn (f : Fin 4 → Fin 4 → Byte) (r c : Fin 4) :
    (StateMatrix.ofFn f).cell r c = f r c := by
  simp [StateMatrix.cell, StateMatrix.ofFn]

/-- Two matrices with the same entries are the same matrix. -/
theorem StateMatrix.ext_cell {s t : StateMatrix} (h : ∀ r c, s.cell r c = t.cell r c) : s = t := by
  apply Vector.ext
  intro r hr
  apply Vector.ext
  intro c hc
  exact h ⟨r, hr⟩ ⟨c, hc⟩

/-- A matrix is the matrix of its entries. -/
theorem StateMatrix.ofFn_cell (s : StateMatrix) : StateMatrix.ofFn (fun r c => s.cell r c) = s :=
  StateMatrix.ext_cell fun r c => by simp

theorem byteOf_wordOf (b0 b1 b2 b3 : Byte) :
    byteOf (wordOf b0 b1 b2 b3) 0 = b0 ∧ byteOf (wordOf b0 b1 b2 b3) 1 = b1 ∧
      byteOf (wordOf b0 b1 b2 b3) 2 = b2 ∧ byteOf (wordOf b0 b1 b2 b3) 3 = b3 := by
  refine ⟨?_, ?_, ?_, ?_⟩ <;>
    (apply BitVec.eq_of_getLsbD_eq
     intro i hi
     rw [show i = i from rfl]
     simp only [byteOf, wordOf, BitVec.getLsbD_extractLsb', BitVec.getLsbD_append]
     interval_cases i <;> simp)

/-- A word is made of its four bytes (R12). -/
theorem wordOf_byteOf (w : Word) : wordOf (byteOf w 0) (byteOf w 1) (byteOf w 2) (byteOf w 3) = w := by
  apply BitVec.eq_of_getLsbD_eq
  intro i hi
  simp only [byteOf, wordOf, BitVec.getLsbD_extractLsb', BitVec.getLsbD_append]
  interval_cases i <;> simp

/-- Words with the same four bytes are the same word. -/
theorem word_ext {v w : Word} (h : ∀ r : Fin 4, byteOf v r = byteOf w r) : v = w := by
  rw [← wordOf_byteOf v, ← wordOf_byteOf w, h 0, h 1, h 2, h 3]

end Sys2Proof.Machine
end

