-- ==== Sys2Proof/Laws/Ops.lean ====
section
/-! SUPPORT. What each shared operation can do, said once. -/

namespace Sys2Proof.Machine

/-! ### Ending a command -/

theorem raise_eq (code : ErrCode) (s : State) : raise code s = .next (s.commit code) := rfl

theorem succeed_eq (s : State) : succeed s = .next (s.commit .ok) := rfl

theorem busy_eq_false_iff {s : State} : s.busy = false ↔ s.pending = none := by
  simp [State.busy]

theorem busy_eq_true_iff {s : State} : s.busy = true ↔ ∃ v, s.pending = some v := by
  simp [State.busy, Option.isSome_iff_exists]

theorem commit_busy (s : State) (code : ErrCode) : (s.commit code).busy = false := rfl

/-- A command with checks ends in one of two ways: the first error found is raised and nothing is written, or no check fails and
what it wrote is committed with OK. -/
theorem checked_cases (checks : List (Option ErrCode)) (s done : State) :
    (∃ code, firstError checks = some code ∧ checked checks s done = .next (s.commit code)) ∨
    (firstError checks = none ∧ checked checks s done = .next (done.commit .ok)) := by
  unfold checked
  cases firstError checks with
  | none => exact .inr ⟨rfl, rfl⟩
  | some code => exact .inl ⟨code, rfl, rfl⟩

theorem checked_of_none {checks : List (Option ErrCode)} (h : firstError checks = none) (s done : State) :
    checked checks s done = .next (done.commit .ok) := by simp [checked, h, succeed]

theorem checked_of_some {checks : List (Option ErrCode)} {code : ErrCode} (h : firstError checks = some code)
    (s done : State) : checked checks s done = .next (s.commit code) := by simp [checked, h, raise]

/-- The error raised is one of those the checks found. -/
theorem firstError_mem {checks : List (Option ErrCode)} {code : ErrCode} (h : firstError checks = some code) :
    some code ∈ checks := by
  induction checks with
  | nil => cases h
  | cons c rest ih =>
    cases c with
    | none => exact List.mem_cons_of_mem _ (ih h)
    | some e => cases h; exact List.mem_cons_self ..

/-! ### Checks -/

theorem keyLengthError_eq_none_iff {s : State} {kt : KeyType} :
    s.keyLengthError kt = none ↔ s.keylen.toNat = 4 * kt.nk := by
  unfold State.keyLengthError; split <;> simp_all

theorem blockLengthError_eq_none_iff {s : State} : s.blockLengthError = none ↔ s.blklen = 16 := by
  unfold State.blockLengthError
  constructor
  · intro h
    by_cases hb : s.blklen.toNat = 16
    · exact BitVec.eq_of_toNat_eq hb
    · simp [hb] at h
  · intro h; simp [h]

theorem scheduleError_eq_none_iff {s : State} : s.scheduleError = none ↔ s.ksv = true := by
  unfold State.scheduleError; split <;> simp_all

theorem roundError_eq_none_iff {s : State} {rnd : Nat} : s.roundError rnd = none ↔ rnd ≤ s.kskt.nr := by
  unfold State.roundError; split <;> simp_all

/-! ### Host accesses -/

/-- A host write does one of three things: a busy core drops it and sets DROP, it writes the register at its offset, or there is no
register there and it does nothing (R204). -/
theorem hostWrite_cases (s : State) (off : Nat) (v : Word) :
    (∃ r, regAt off = some r ∧ s.busy = true ∧ r.isInput = true ∧
      s.hostWrite off v = { s with drop := true }) ∨
    (∃ r, regAt off = some r ∧ (s.busy = false ∨ r.isInput = false) ∧ s.hostWrite off v = s.writeReg r v) ∨
    (regAt off = none ∧ s.hostWrite off v = s) := by
  unfold State.hostWrite
  cases h : regAt off with
  | none => exact .inr (.inr ⟨rfl, rfl⟩)
  | some r =>
    by_cases hb : s.busy = true ∧ r.isInput = true
    · exact .inl ⟨r, rfl, hb.1, hb.2, by simp [hb.1, hb.2]⟩
    · refine .inr (.inl ⟨r, rfl, ?_, ?_⟩)
      · cases hs : s.busy <;> simp_all
      · have : (s.busy && r.isInput) = false := by
          cases hs : s.busy <;> simp_all
        simp [this]

/-- A write made while BUSY = 1 can change nothing but DROP (R112, R217). -/
theorem hostWrite_busy {s : State} (h : s.busy = true) (off : Nat) (v : Word) :
    ∃ d, s.hostWrite off v = { s with drop := d } := by
  rcases hostWrite_cases s off v with ⟨r, -, -, -, e⟩ | ⟨r, -, hr, e⟩ | ⟨-, e⟩
  · exact ⟨true, e⟩
  · rw [e]
    have hin : r.isInput = false := by simpa [h] using hr
    cases r <;> first | exact ⟨s.drop, rfl⟩ | exact ⟨_, rfl⟩ | cases hin
  · exact ⟨s.drop, by rw [e]⟩

end Sys2Proof.Machine
end

