-- ==== Sys2Proof/Laws/PerInstr.lean ====
section
/-! SUPPORT. Statements made of every instruction, one lemma for each constructor. -/

namespace Sys2Proof.Laws.EncodedOpcode

/-- The opcode of each command's row in the map of R303. -/
def opcodeOf : Instr → BitVec 6
  | .nop => 0x00
  | .keyExpand _ => 0x01
  | .encrypt => 0x02
  | .decrypt => 0x03
  | .loadState => 0x04
  | .storeState => 0x05
  | .subBytes => 0x08
  | .invSubBytes => 0x09
  | .shiftRows => 0x0A
  | .invShiftRows => 0x0B
  | .mixColumns => 0x0C
  | .invMixColumns => 0x0D
  | .addRoundKey _ => 0x0E
  | .gfMul _ _ => 0x10

/-- The word of a command has its row's opcode in bits 5:0, whatever its operands (R301, R303). -/
def Statement (i : Instr) : Prop := opField (encode i) = opcodeOf i

theorem nop : Statement .nop := opField_cmd32 _ _ _ _ _
theorem keyExpand (kt : KeyType) : Statement (.keyExpand kt) := opField_cmd32 _ _ _ _ _
theorem encrypt : Statement .encrypt := opField_cmd32 _ _ _ _ _
theorem decrypt : Statement .decrypt := opField_cmd32 _ _ _ _ _
theorem loadState : Statement .loadState := opField_cmd32 _ _ _ _ _
theorem storeState : Statement .storeState := opField_cmd32 _ _ _ _ _
theorem subBytes : Statement .subBytes := opField_cmd32 _ _ _ _ _
theorem invSubBytes : Statement .invSubBytes := opField_cmd32 _ _ _ _ _
theorem shiftRows : Statement .shiftRows := opField_cmd32 _ _ _ _ _
theorem invShiftRows : Statement .invShiftRows := opField_cmd32 _ _ _ _ _
theorem mixColumns : Statement .mixColumns := opField_cmd32 _ _ _ _ _
theorem invMixColumns : Statement .invMixColumns := opField_cmd32 _ _ _ _ _
theorem addRoundKey (rnd : Nat) : Statement (.addRoundKey rnd) := opField_cmd32 _ _ _ _ _
theorem gfMul (a b : Byte) : Statement (.gfMul a b) := opField_cmd32 _ _ _ _ _

end Sys2Proof.Laws.EncodedOpcode
end

