-- ==== Sys2Proof/Laws/Step.lean ====
section
/-! SUPPORT. What one step of the machine can do, said once; invariants are derived from it. -/

namespace Sys2Proof.Machine

theorem execute_of_instr {v : Word} {i : Instr} (h : decode v = .instr i) (s : State) : execute v s = exec i s := by
  simp [execute, h]

theorem execute_of_illegal {v : Word} {why : Illegal} (h : decode v = .illegal why) (s : State) :
    execute v s = .next (s.commit .illegalCommand) := by
  simp [execute, h, raise]

theorem engineTurn_cases (s : State) :
    (s.pending = none ∧ engineTurn s = .next s) ∨ ∃ v, s.pending = some v ∧ engineTurn s = execute v s := by
  unfold engineTurn
  cases s.pending with
  | none => exact .inl ⟨rfl, rfl⟩
  | some v => exact .inr ⟨v, rfl, rfl⟩

theorem engineOrStop_cases (stop : Host.Outcome State Fault Refusal) (s : State) :
    (s.pending = none ∧ engineOrStop stop s = stop) ∨
      ∃ v, s.pending = some v ∧ engineOrStop stop s = execute v s := by
  unfold engineOrStop
  cases s.pending with
  | none => exact .inl ⟨rfl, rfl⟩
  | some v => exact .inr ⟨v, rfl, rfl⟩

/-- If a step answers a next state, then one of these happened: the engine executed the pending command (in its turn, at the end of
the schedule, or because the host is stuck), its turn passed with nothing pending, the host read or wrote, or the platform
reset the core. -/
theorem step_cases {s t : State} (h : step s = .next t) :
    (∃ v rest, s.schedule = .engine :: rest ∧ s.pending = some v ∧
      execute v { s with schedule := rest } = .next t) ∨
    (∃ v, (s.schedule = [] ∨ ∃ e rest, s.schedule = e :: rest ∧ Event.keepsInterface e = false) ∧
      s.pending = some v ∧ execute v s = .next t) ∨
    (∃ rest, s.schedule = .engine :: rest ∧ s.pending = none ∧ t = { s with schedule := rest }) ∨
    (∃ a rest, s.schedule = .hostRead a :: rest ∧ a.defined = true ∧
      t = { s with schedule := rest }.hostRead a.offset) ∨
    (∃ a v rest, s.schedule = .hostWrite a v :: rest ∧ a.defined = true ∧
      t = { s with schedule := rest }.hostWrite a.offset v) ∨
    (∃ rest, s.schedule = .reset :: rest ∧ t = { s with schedule := rest }.platformReset) := by
  unfold step at h
  cases hs : s.schedule with
  | nil =>
    rw [hs] at h
    rcases engineOrStop_cases (.refused .noAgentHasAStep) s with ⟨-, e⟩ | ⟨v, hv, e⟩
    · rw [e] at h; cases h
    · exact .inr (.inl ⟨v, .inl rfl, hv, e ▸ h⟩)
  | cons e rest =>
    rw [hs] at h
    cases e with
    | engine =>
      rcases engineTurn_cases { s with schedule := rest } with ⟨hp, e⟩ | ⟨v, hv, e⟩
      · simp only [eventStep, e, Host.Outcome.next.injEq] at h
        exact .inr (.inr (.inl ⟨rest, rfl, hp, h.symm⟩))
      · simp only [eventStep, e] at h
        exact .inl ⟨v, rest, rfl, hv, h⟩
    | reset =>
      simp only [eventStep, Host.Outcome.next.injEq] at h
      exact .inr (.inr (.inr (.inr (.inr ⟨rest, rfl, h.symm⟩))))
    | hostRead a =>
      cases ha : a.defined with
      | true =>
        simp only [eventStep, ha, if_true, Host.Outcome.next.injEq] at h
        exact .inr (.inr (.inr (.inl ⟨a, rest, rfl, ha, h.symm⟩)))
      | false =>
        simp only [eventStep, ha] at h
        rcases engineOrStop_cases (.fault .hostStuckOutsideInterface) s with ⟨-, e⟩ | ⟨v, hv, e⟩
        · simp [e] at h
        · simp only [Bool.false_eq_true, if_false, e] at h
          exact .inr (.inl ⟨v, .inr ⟨_, rest, rfl, ha⟩, hv, h⟩)
    | hostWrite a x =>
      cases ha : a.defined with
      | true =>
        simp only [eventStep, ha, if_true, Host.Outcome.next.injEq] at h
        exact .inr (.inr (.inr (.inr (.inl ⟨a, x, rest, rfl, ha, h.symm⟩))))
      | false =>
        simp only [eventStep, ha] at h
        rcases engineOrStop_cases (.fault .hostStuckOutsideInterface) s with ⟨-, e⟩ | ⟨v, hv, e⟩
        · simp [e] at h
        · simp only [Bool.false_eq_true, if_false, e] at h
          exact .inr (.inl ⟨v, .inr ⟨_, rest, rfl, ha⟩, hv, h⟩)

/-! ### Runs -/

/-- One step of a run, for any machine. -/
theorem coreRun_succ (M : Host.Core) {s t : M.State} (h : M.step s = .next t) (n : Nat) :
    M.run (n + 1) s = M.run n t := by
  simp only [Host.Core.run, h]

/-- Runs compose, for any machine. -/
theorem coreRun_add (M : Host.Core) {s t : M.State} {m : Nat} (n : Nat) (h : M.run m s = .next t) :
    M.run (m + n) s = M.run n t := by
  induction m generalizing s with
  | zero => cases h; rw [Nat.zero_add]
  | succ m ih =>
    rw [Nat.succ_add]
    cases hs : M.step s with
    | next u => rw [coreRun_succ M hs] at h ⊢; exact ih h
    | fault r => simp only [Host.Core.run, hs] at h; cases h
    | refused r => simp only [Host.Core.run, hs] at h; cases h

/-- One step of a run of this machine. -/
theorem run_succ_of_next {s t : State} (h : step s = .next t) (n : Nat) :
    Host.Core.run core (n + 1) s = Host.Core.run core n t := coreRun_succ core h n

/-- Runs of this machine compose. -/
theorem run_add {s t : State} {m : Nat} (n : Nat) (h : Host.Core.run core m s = .next t) :
    Host.Core.run core (m + n) s = Host.Core.run core n t := coreRun_add core n h

end Sys2Proof.Machine
end

