-- ==== Sys2Proof/Tests/Slice0.lean ====
section
/-! SUPPORT. Small tests. Every expected value is the spec's: a rule's own example or a vector of 95_test_vectors.md, named beside it.
Then one witness for each statement that has hypotheses: states and operands that meet all of them, clause by clause. -/

namespace Sys2Proof.Tests

open Sys2Proof.Machine

/-! ### WellFormed (R309) -/

theorem test_wf_refuses_round_16 : (Instr.addRoundKey 16).wf = false := by decide
theorem test_wf_accepts_round_15 : (Instr.addRoundKey 15).wf = true := by decide
theorem test_assemble_emits_nothing_for_round_16 : assemble (.addRoundKey 16) = none := by decide

/-! ### Decoding, words of R303, R309 and V15 -/

theorem test_decode_nop : decode 0x00000000 = .instr .nop := by decide
theorem test_decode_key_expand_128 : decode 0x00000001 = .instr (.keyExpand .aes128) := by decide
theorem test_decode_key_expand_192 : decode 0x00000041 = .instr (.keyExpand .aes192) := by decide
theorem test_decode_key_expand_256 : decode 0x00000081 = .instr (.keyExpand .aes256) := by decide
theorem test_decode_encrypt : decode 0x00000002 = .instr .encrypt := by decide
theorem test_decode_decrypt : decode 0x00000003 = .instr .decrypt := by decide
theorem test_decode_load_state : decode 0x00000004 = .instr .loadState := by decide
theorem test_decode_store_state : decode 0x00000005 = .instr .storeState := by decide
theorem test_decode_sub_bytes : decode 0x00000008 = .instr .subBytes := by decide
theorem test_decode_inv_sub_bytes : decode 0x00000009 = .instr .invSubBytes := by decide
theorem test_decode_shift_rows : decode 0x0000000A = .instr .shiftRows := by decide
theorem test_decode_inv_shift_rows : decode 0x0000000B = .instr .invShiftRows := by decide
theorem test_decode_mix_columns : decode 0x0000000C = .instr .mixColumns := by decide
theorem test_decode_inv_mix_columns : decode 0x0000000D = .instr .invMixColumns := by decide
theorem test_decode_add_round_key_10 : decode 0x00000A0E = .instr (.addRoundKey 10) := by decide
theorem test_decode_gf_mul : decode 0x83570010 = .instr (.gfMul 0x57 0x83) := by decide
theorem test_decode_key_type_3 : decode 0x000000C1 = .illegal .reservedKeyType := by decide
theorem test_decode_key_expand_with_round : decode 0x00000101 = .illegal .nonzeroUnusedField := by decide
theorem test_decode_round_key_with_bit_12 : decode 0x0000100E = .illegal .nonzeroUnusedField := by decide
theorem test_decode_gf_mul_with_kt : decode 0x00000090 = .illegal .nonzeroUnusedField := by decide
theorem test_decode_op_06 : decode 0x00000006 = .illegal .unassignedOpcode := by decide
theorem test_decode_op_11 : decode 0x00000011 = .illegal .unassignedOpcode := by decide
theorem test_decode_op_3F : decode 0x0000003F = .illegal .unassignedOpcode := by decide

/-- R309: the example words of the assembler. -/
theorem test_encode_gf_mul : encode (.gfMul 0x57 0x83) = 0x83570010 := by decide
theorem test_encode_add_round_key_10 : encode (.addRoundKey 10) = 0x00000A0E := by decide
theorem test_table_word_of_40_bits_refused : decodeTableWord 40 0 = none := by decide

/-! ### Commands -/

/-- A State matrix from its four column words. -/
def columns (c0 c1 c2 c3 : Word) : StateMatrix :=
  setcol (setcol (setcol (setcol State.reset.state 0 c0) 1 c1) 2 c2) 3 c3

/-- The reset state with a given STATE. -/
def withColumns (c0 c1 c2 c3 : Word) : State := { State.reset with state := columns c0 c1 c2 c3 }

/-- The reset state with a key for `kt`, its length declared. -/
def withKey (kt : KeyType) (key : Vector Word 8) : State :=
  { State.reset with key := key, keylen := BitVec.ofNat 8 (4 * kt.nk) }

/-- The state a command leaves, or the state before it where the command stops (none does). -/
def after (i : Instr) (s : State) : State :=
  match exec i s with
  | .next t => t
  | .fault _ => s
  | .refused _ => s

/-- The columns of STATE after a command. -/
def columnsAfter (i : Instr) (s : State) : List Word := (List.finRange 4).map (colword (after i s).state)

/-- T2, column 0 and 1. -/
theorem test_sub_bytes :
    columnsAfter .subBytes (withColumns 0x193de3be 0xa0f4e22b 0x9ac68d2a 0xe9f84808) =
      [0xd42711ae, 0xe0bf98f1, 0xb8b45de5, 0x1e415230] := by decide +kernel

/-- V2, the reset STATE (R922). -/
theorem test_inv_sub_bytes_on_reset :
    columnsAfter .invSubBytes State.reset = [0x52525252, 0x52525252, 0x52525252, 0x52525252] := by decide +kernel

/-- V3, the first and second rows. -/
theorem test_shift_rows :
    columnsAfter .shiftRows (withColumns 0x00010203 0x04050607 0x08090a0b 0x0c0d0e0f) =
      [0x00050a0f, 0x04090e03, 0x080d0207, 0x0c01060b] := by decide +kernel
theorem test_inv_shift_rows :
    columnsAfter .invShiftRows (withColumns 0x00010203 0x04050607 0x08090a0b 0x0c0d0e0f) =
      [0x000d0a07, 0x04010e0b, 0x0805020f, 0x0c090603] := by decide +kernel

/-- V4. -/
theorem test_mix_columns :
    columnsAfter .mixColumns (withColumns 0xdb135345 0x80000000 0xd4d4d4d5 0xc6c6c6c6) =
      [0x8e4da1bc, 0x1b80809b, 0xd5d5d7d6, 0xc6c6c6c6] := by decide +kernel
theorem test_inv_mix_columns :
    columnsAfter .invMixColumns (withColumns 0x8e4da1bc 0x80000000 0x2d26314c 0x00000001) =
      [0xdb135345, 0x41ecdaf7, 0xa05050d6, 0x090d0b0e] := by decide +kernel

/-- V1 and R409. -/
theorem test_gf_mul : (after (.gfMul 0x57 0x83) State.reset).gfr = 0xC1 := by decide
theorem test_gf_mul_reduces : (after (.gfMul 0x80 0x80) State.reset).gfr = 0x9A := by decide

/-- T3 and V5: the source's known answer, the last word and the zero tail. -/
theorem test_key_expand_128 :
    (let t := after (.keyExpand .aes128)
        (withKey .aes128 #v[0x2b7e1516, 0x28aed2a6, 0xabf71588, 0x09cf4f3c, 0xffffffff, 0, 0, 0]);
      [t.w[4], t.w[43], t.w[44]]) = [0xa0fafe17, 0xb6630ca6, 0] := by decide +kernel

/-- V7: the first word of the Aes256 branch. -/
theorem test_key_expand_256 :
    (let t := after (.keyExpand .aes256)
        (withKey .aes256 #v[0x603deb10, 0x15ca71be, 0x2b73aef0, 0x857d7781, 0x1f352c07, 0x3b6108d7, 0x2d9810a3, 0x0914dff4]);
      [t.w[8], t.w[12], t.w[13]]) = [0x9ba35411, 0xa8b09c1a, 0x93d194cd] := by decide +kernel

/-- T1's key, expanded, with T1's block in DIN. -/
def scheduled : State :=
  after (.keyExpand .aes128)
    { withKey .aes128 #v[0x00010203, 0x04050607, 0x08090a0b, 0x0c0d0e0f, 0, 0, 0, 0] with
      blklen := 16
      din := #v[0x00112233, 0x44556677, 0x8899aabb, 0xccddeeff] }

/-- T1: the source's ciphertext. -/
theorem test_encrypt :
    (after .encrypt scheduled).dout.toList = [0x69c4e0d8, 0x6a7b0430, 0xd8cdb780, 0x70b4c55a] := by decide +kernel

/-- R710's example: T1 backwards. -/
theorem test_decrypt :
    (after .decrypt { scheduled with din := #v[0x69c4e0d8, 0x6a7b0430, 0xd8cdb780, 0x70b4c55a] }).dout.toList =
      [0x00112233, 0x44556677, 0x8899aabb, 0xccddeeff] := by decide +kernel

/-- V4b: `ADD_ROUND_KEY 10` and, above Nr, `ADD_ROUND_KEY 11`. -/
theorem test_add_round_key :
    columnsAfter (.addRoundKey 10) { scheduled with state := columns 0x00112233 0x44556677 0x8899aabb 0xccddeeff } =
      [0x13003f4c, 0xa7c12c60, 0x7b9e0d30, 0x81f6de3a] := by decide +kernel
theorem test_add_round_key_above_nr : (after (.addRoundKey 11) scheduled).err = .invalidRound := by decide +kernel

/-- R763 and R765's examples. -/
theorem test_load_state :
    columnsAfter .loadState { State.reset with blklen := 16, din := #v[0x00112233, 0x44556677, 0x8899aabb, 0xccddeeff] } =
      [0x00112233, 0x44556677, 0x8899aabb, 0xccddeeff] := by decide +kernel
theorem test_store_state :
    (after .storeState (withColumns 0x00112233 0x44556677 0x8899aabb 0xccddeeff)).dout.toList =
      [0x00112233, 0x44556677, 0x8899aabb, 0xccddeeff] := by decide +kernel

/-- V14: ERR = 5 from an earlier command, then NOP. -/
theorem test_nop : (after .nop { State.reset with err := .invalidRound }).err = .ok := by decide

/-- V14: errors in the order of R802. -/
theorem test_encrypt_reports_length_first : (after .encrypt State.reset).err = .invalidBlockLength := by decide
theorem test_decrypt_needs_a_schedule : (after .decrypt { State.reset with blklen := 16 }).err = .noKeySchedule := by decide
theorem test_key_expand_checks_length :
    (after (.keyExpand .aes192) { State.reset with keylen := 16 }).err = .invalidKeyLength := by decide
theorem test_round_key_needs_a_schedule : (after (.addRoundKey 15) State.reset).err = .noKeySchedule := by decide

/-! ### The host's side and the step -/

/-- The state after one step, or the state before it where the machine stops. -/
def stepped (s : State) : State :=
  match step s with
  | .next t => t
  | .fault _ => s
  | .refused _ => s

/-- P3, line 18: KSV = 1, ERR = 5, BUSY = 0. -/
theorem test_status_word : ({ State.reset with ksv := true, err := .invalidRound } : State).statusWord = 0x00000502 := by decide
/-- P4, line 12: KSKT = 2; and P3, line 28: DROP. -/
theorem test_status_key_type : ({ State.reset with ksv := true, kskt := .aes256 } : State).statusWord = 0x0000000A := by decide
theorem test_status_drop : ({ State.reset with ksv := true, drop := true } : State).statusWord = 0x00000012 := by decide

/-- R207: DIN2 is at 0x048, and a write to it lands there. -/
theorem test_write_din2 :
    (stepped { State.reset with schedule := [.hostWrite ⟨0x048, 32⟩ 0x8899aabb] }).din.toList = [0, 0, 0x8899aabb, 0] := by decide
/-- R112: a write to KEYLEN while busy is dropped. -/
theorem test_write_while_busy :
    (let t := stepped { State.reset with pending := some 2, schedule := [.hostWrite ⟨0x008, 32⟩ 16] };
      (t.keylen, t.drop, t.pending)) = (0, true, some 2) := by decide
/-- R914: clearing DROP. -/
theorem test_clear_drop :
    (stepped { State.reset with drop := true, schedule := [.hostWrite ⟨0x004, 32⟩ 0x10] }).drop = false := by decide
/-- R102: W59 is at 0x1EC. -/
theorem test_read_w59 :
    (stepped { State.reset with w := State.reset.w.set 59 0x6d68de36, schedule := [.hostRead ⟨0x1EC, 32⟩] }).observed =
      [0x6d68de36] := by decide +kernel
/-- R902: a reset discards a pending command. -/
theorem test_reset_discards :
    (stepped { State.reset with pending := some 0, err := .invalidRound, schedule := [.reset] }).pending = none := by decide
/-- R304 and R306 on the machine: a reserved opcode ends with ERR = 4. -/
theorem test_illegal_word : (stepped (State.reset.withFetchWord 32 0x3F)).err = .illegalCommand := by decide
/-- An opcode-table word runs as the very next step, ahead of what the schedule holds. -/
theorem test_fetch_word_runs_first :
    (stepped ({ State.reset with err := .invalidRound, schedule := [.reset] }.withFetchWord 32 0)).schedule = [.reset] := by decide

/-! ### Witnesses: the hypotheses of each statement can be met, clause by clause -/

/-- The reset state with a command pending. -/
def busyWith (v : Word) : State := { State.reset with pending := some v }

theorem witness_DecodeOfEncodeIsTheCommand : (Instr.addRoundKey 15).wf = true := by decide
theorem witness_EncodeOfDecodeIsTheWord : decode 0x00000F0E = .instr (.addRoundKey 15) := by decide
theorem witness_StepRunsTheDecodedCommand :
    (busyWith 0x00000F0E).pending = some 0x00000F0E ∧ decode 0x00000F0E = .instr (.addRoundKey 15) ∧
    (busyWith 0x00000F0E).schedule = [] ∧
    ({ busyWith 0x00000F0E with schedule := [.engine, .reset] } : State).schedule = .engine :: [.reset] := by decide
theorem witness_IllegalWordFailsAndChangesOnlyErr :
    (busyWith 0x000000C1).pending = some 0x000000C1 ∧ decode 0x000000C1 = .illegal .reservedKeyType ∧
    (busyWith 0x000000C1).schedule = [] ∧
    ({ busyWith 0x000000C1 with schedule := [.engine, .reset] } : State).schedule = .engine :: [.reset] := by decide
theorem witness_IdleEngineHasNoStep :
    State.reset.pending = none ∧ State.reset.schedule = [] ∧
    ({ State.reset with schedule := [.engine] } : State).schedule = .engine :: [] := by decide
theorem witness_AcceptedCommandCompletes :
    (let s : State := { busyWith 2 with schedule := [.hostRead ⟨0x004, 32⟩, .hostWrite ⟨0x1FC, 32⟩ 7] };
      s.pending = some 2 ∧ s.schedule.all Event.isDefinedAccess = true) := by decide
theorem witness_CommandSeesTheInputsAtAcceptance :
    (let s : State := { State.reset with schedule := wr .cmd 0 :: [wr .keylen 16] ++ .engine :: [.reset] };
      s.pending = none ∧ [wr .keylen 16].all Event.isDefinedAccess = true ∧
      s.schedule = wr .cmd 0 :: [wr .keylen 16] ++ .engine :: [.reset] ∧
      execute 0 s = .next (s.commit .ok)) := by
  refine ⟨rfl, by decide, rfl, rfl⟩
theorem witness_BusyStepChangesOnlyDrop :
    (let s : State := { busyWith 2 with schedule := [wr .cmd 0] };
      step s = .next { busyWith 2 with drop := true } ∧ s.busy = true ∧ ({ busyWith 2 with drop := true } : State).busy = true) := by
  refine ⟨rfl, rfl, rfl⟩
theorem witness_FailedCommandChangesOnlyErr :
    execute 2 State.reset = .next (State.reset.commit .invalidBlockLength) ∧
    (State.reset.commit .invalidBlockLength).err ≠ .ok := by
  refine ⟨rfl, by decide⟩
theorem witness_CommandsWriteOnlyTheirRegisters :
    (let t := State.reset.commit .ok;
      exec (.gfMul 1 1) State.reset = .next { t with gfr := 1 } ∧ ({ t with gfr := 1 } : State).gfr ≠ State.reset.gfr) ∧
    (let s := { State.reset with din := #v[1, 0, 0, 0], blklen := 16 };
      (after .loadState s).state ≠ s.state) ∧
    (let s := { State.reset with state := columns 1 0 0 0 };
      (after .storeState s).dout ≠ s.dout) ∧
    (let s := { State.reset with keylen := 16 };
      (after (.keyExpand .aes128) s).ksv ≠ s.ksv) := by
  refine ⟨⟨rfl, by decide⟩, by decide +kernel, by decide +kernel, by decide +kernel⟩
/-- The first and the last offset, and one for each clause; offsets of two clauses do not exist: the clauses name different ranges. -/
theorem witness_HostReadReturnsTheRegister :
    (∀ off ∈ [0x000, 0x004, 0x008, 0x00C, 0x010, 0x014, 0x01C, 0x020, 0x03C, 0x040, 0x04C, 0x050, 0x05C, 0x060, 0x06C, 0x070,
        0x0FC, 0x100, 0x1EC, 0x1F0, 0x1FC],
      off % 4 = 0 ∧ off ≤ 0x1FC ∧
        ({ State.reset with schedule := [.hostRead ⟨off, 32⟩] } : State).schedule = .hostRead ⟨off, 32⟩ :: []) ∧
    State.reset.busy = false ∧ (busyWith 0).busy = true := by
  refine ⟨fun off h => ⟨?_, ?_, rfl⟩, rfl, rfl⟩ <;> revert off <;> decide
theorem witness_BusyResultReadsDrawFreeValues :
    (∀ off ∈ [0x000, 0x010, 0x04C, 0x050, 0x06C, 0x070, 0x100, 0x1EC, 0x1F0],
      off % 4 = 0 ∧ off ≤ 0x1FC ∧
        ({ busyWith 0 with schedule := [.hostRead ⟨off, 32⟩] } : State).schedule = .hostRead ⟨off, 32⟩ :: []) ∧
    (busyWith 0).busy = true ∧ State.reset.busy = false := by
  refine ⟨fun off h => ⟨?_, ?_, rfl⟩, rfl, rfl⟩ <;> revert off <;> decide
theorem witness_HostWriteDoesWhatItsOffsetSays :
    (∀ off ∈ [0x000, 0x004, 0x008, 0x00C, 0x010, 0x01C, 0x020, 0x03C, 0x040, 0x04C, 0x050, 0x06C, 0x100, 0x1EC, 0x1FC],
      off % 4 = 0 ∧ off ≤ 0x1FC ∧
        ({ State.reset with schedule := [.hostWrite ⟨off, 32⟩ 1] } : State).schedule = .hostWrite ⟨off, 32⟩ 1 :: []) := by
  refine fun off h => ⟨?_, ?_, rfl⟩ <;> revert off <;> decide
theorem witness_DropMarksExactlyTheLostWrites :
    (let s : State := { busyWith 0 with schedule := [wr (.din 3) 1] };
      s.busy = true ∧ s.schedule = wr (.din 3) 1 :: [] ∧
      step s = .next { busyWith 0 with drop := true } ∧ true ≠ s.drop) ∧
    (let s : State := { State.reset with drop := true, schedule := [wr .status 16] };
      s.schedule = wr .status 16 :: [] ∧ (16 : Word).getLsbD 4 = true ∧
      step s = .next State.reset ∧ State.reset.drop ≠ s.drop) ∧
    (let s : State := { busyWith 0 with drop := true, schedule := [.reset] };
      s.schedule = .reset :: [] ∧ step s = .next State.reset) := by
  refine ⟨⟨rfl, rfl, rfl, by decide⟩, ⟨rfl, rfl, rfl, by decide⟩, ⟨rfl, rfl⟩⟩
theorem witness_UndefinedAccessLeavesTheHostStuck :
    ((Access.mk 0x004 16).width ≠ 32 ∧ (Access.mk 0x005 32).offset % 4 ≠ 0 ∧ 0x1FC < (Access.mk 0x200 32).offset) ∧
    ({ State.reset with schedule := [.hostRead ⟨0x200, 32⟩] } : State).schedule = .hostRead ⟨0x200, 32⟩ :: [] ∧
    ({ State.reset with schedule := [.hostWrite ⟨0x005, 32⟩ 1] } : State).schedule = .hostWrite ⟨0x005, 32⟩ 1 :: [] ∧
    State.reset.pending = none ∧ (busyWith 5).pending = some 5 := by decide
theorem witness_NoStopWhileTheHostKeepsTheInterface :
    ({ State.reset with schedule := [rd (.w 59), .engine, .reset] } : State).hostKeepsInterface = true ∧
    ({ State.reset with schedule := [rd (.w 59), .engine, .reset] } : State).someAgentHasAStep = true ∧
    (busyWith 0).hostKeepsInterface = true ∧ (busyWith 0).someAgentHasAStep = true := by decide
theorem witness_ResetGivesEveryRegisterItsValue :
    ({ busyWith 1 with schedule := [.reset] } : State).schedule = .reset :: [] := rfl
/-- A state the invariant holds in with a schedule stored, and a step from it. -/
theorem witness_EveryStepKeepsScheduleInv :
    (let s : State :=
        { State.reset with
          ksv := true
          kskt := .aes192
          w := keyExpansion .aes192 (Vector.replicate 32 7)
          schedule := [.engine] };
      s.ScheduleInv ∧ step s = .next { s with schedule := [] }) := by
  exact ⟨⟨fun _ => ⟨_, rfl⟩, fun h => by cases h⟩, rfl⟩
theorem witness_FieldLaws : (0xFF : Byte) ≠ 0 := by decide
theorem witness_BasisMultipliersAgree : xTime 0xFF = xTime 0xFF := rfl
/-- 0x53 and 0xCA are inverses (R406's example); 0 has its own clause. -/
theorem witness_SboxIsInverseThenAffineMap : multiply 0x53 0xCA = 1 ∧ ((0 : Byte) = 0 ∧ (0 : Byte) = 0) := by decide
theorem witness_MixColumnsLaws : ∀ r, (columns 0xc6c6c6c6 0 0 0).cell r 0 = 0xc6 := by decide +kernel
theorem witness_AddRoundKeyLaws : ∀ c : Fin 4, scheduleWord State.reset.w (4 * 14 + c.val) = 0 := by decide
theorem witness_AddRoundKeyXorsTheSlice :
    State.reset.ksv = false ∧
    (let s : State := { State.reset with ksv := true, kskt := .aes256 };
      s.ksv = true ∧ s.kskt.nr < 15 ∧ 14 ≤ s.kskt.nr) := by decide
theorem witness_ExpansionFollowsTheRecurrence :
    (7 < KeyType.aes256.nk) ∧ (KeyType.aes256.nk ≤ 59 ∧ 59 < 4 * (KeyType.aes256.nr + 1)) ∧
    (4 * (KeyType.aes192.nr + 1) ≤ 52 ∧ 52 < 60) := by decide
theorem witness_KeyExpandWritesTheSchedule :
    State.reset.keylen.toNat ≠ 4 * KeyType.aes128.nk ∧
    ({ State.reset with keylen := 32 } : State).keylen.toNat = 4 * KeyType.aes256.nk ∧ 7 < KeyType.aes256.nk := by decide
/-- Two states that differ in KEY4 only, which Aes128 does not read. -/
theorem witness_KeyExpandIgnoresTheKeyTail :
    (let s := { State.reset with keylen := 16 };
     let s' := { s with key := s.key.set 4 1 };
      s.keylen = s'.keylen ∧ (∀ j : Fin 8, j.val < KeyType.aes128.nk → s.key[j] = s'.key[j]) ∧ s ≠ s' ∧
      exec (.keyExpand .aes128) s = .next (after (.keyExpand .aes128) s) ∧
      exec (.keyExpand .aes128) s' = .next (after (.keyExpand .aes128) s') ∧
      (after (.keyExpand .aes128) s).err = .ok) := by
  refine ⟨rfl, by decide, by decide, rfl, rfl, rfl⟩
theorem witness_EncryptWritesDout :
    State.reset.blklen ≠ 16 ∧ ({ State.reset with blklen := 16 } : State).blklen = 16 ∧
    ({ State.reset with blklen := 16 } : State).ksv = false ∧
    ({ State.reset with blklen := 16, ksv := true } : State).ksv = true := by decide
theorem witness_DecryptWritesDout :
    ({ State.reset with blklen := 15 } : State).blklen ≠ 16 ∧ ({ State.reset with blklen := 16 } : State).blklen = 16 ∧
    ({ State.reset with blklen := 16 } : State).ksv = false ∧
    ({ State.reset with blklen := 16, ksv := true } : State).ksv = true := by decide
/-- The reset state with a block declared and a schedule stored: the hypotheses of the whole-block statements. -/
def ready : State := { State.reset with blklen := 16, ksv := true }
theorem witness_DecryptAfterEncryptRestoresTheBlock : ready.blklen = 16 ∧ ready.ksv = true := by decide
/-- Two states that differ in KEY0 and STATE. -/
theorem witness_BlockCommandsDependOnInputAndSchedule :
    (let s' := { ready with key := ready.key.set 0 1, state := columns 1 2 3 4 };
      ready.blklen = s'.blklen ∧ ready.din = s'.din ∧ ready.ksv = s'.ksv ∧ ready.kskt = s'.kskt ∧ ready.w = s'.w ∧
      ready.key ≠ s'.key ∧
      exec .encrypt ready = .next (after .encrypt ready) ∧ exec .encrypt s' = .next (after .encrypt s') ∧
      (after .encrypt ready).err = .ok) := by
  refine ⟨rfl, rfl, rfl, rfl, rfl, by decide, rfl, rfl, rfl⟩
/-- The NOP word and the nearest word with OP = 0 that is not one (V14). -/
theorem witness_NopClearsErrAndNothingElse :
    (0x00000000 : Word).extractLsb' 0 6 = 0x00 ∧ (0x00000100 : Word).extractLsb' 0 6 = 0x00 ∧
    (0x00000100 : Word) ≠ 0 := by decide
theorem witness_LoadStateCopiesDinToTheColumns : State.reset.blklen ≠ 16 ∧ ready.blklen = 16 := by decide
theorem witness_StepModeReproducesEncrypt :
    ready.pending = none ∧ ready.ksv = true ∧ ready.blklen = 16 ∧ exec .encrypt ready = .next (after .encrypt ready) := by
  refine ⟨rfl, rfl, rfl, rfl⟩
theorem witness_StepModeReproducesDecrypt :
    ready.pending = none ∧ ready.ksv = true ∧ ready.blklen = 16 ∧ exec .decrypt ready = .next (after .decrypt ready) := by
  refine ⟨rfl, rfl, rfl, rfl⟩

end Sys2Proof.Tests
end

section
/-! State layout (00_scope.md R15 to R17): the byte sequence and the columns of a State matrix, and the rows O25 and O26. -/

namespace Sys2Proof.Machine

/-! ### Packing and flattening -/

@[simp] theorem cell_pack (x : Vector Byte 16) (r c : Fin 4) : (pack x).cell r c = x[r.val + 4 * c.val] :=
  StateMatrix.cell_ofFn _ r c

theorem getElem_flatten (s : StateMatrix) (i : Nat) (h : i < 16) :
    (flatten s)[i] = s.cell (Fin.ofNat 4 i) (Fin.ofNat 4 (i / 4)) :=
  Vector.getElem_ofFn h

/-- `out[r + 4c] = s[r, c]` (R16): the position `r + 4c` determines row and column. -/
@[simp] theorem getElem_flatten_position (s : StateMatrix) (r c : Fin 4) :
    (flatten s)[r.val + 4 * c.val] = s.cell r c := by
  have hr : Fin.ofNat 4 (r.val + 4 * c.val) = r := Fin.ext (by simp only [Fin.val_ofNat]; omega)
  have hc : Fin.ofNat 4 ((r.val + 4 * c.val) / 4) = c := Fin.ext (by simp only [Fin.val_ofNat]; omega)
  rw [getElem_flatten, hr, hc]

theorem flatten_pack (x : Vector Byte 16) : flatten (pack x) = x := by
  apply Vector.ext
  intro i hi
  have hpos : i % 4 + 4 * (i / 4 % 4) = i := by omega
  simp only [getElem_flatten, cell_pack, Fin.val_ofNat, hpos]

theorem pack_flatten (s : StateMatrix) : pack (flatten s) = s :=
  StateMatrix.ext_cell fun r c => by rw [cell_pack, getElem_flatten_position]

/-- Settles O25: the entries are read off at position `r + 4c`, and the inverses follow entry by entry. -/
theorem packAndFlattenAreInverse : Obligations.PackAndFlattenAreInverse :=
  ⟨cell_pack, getElem_flatten_position, flatten_pack, pack_flatten⟩

/-! ### Columns -/

@[simp] theorem byteOf_colword (s : StateMatrix) (c r : Fin 4) : byteOf (colword s c) r = s.cell r c := by
  obtain ⟨h0, h1, h2, h3⟩ := byteOf_wordOf (s.cell 0 c) (s.cell 1 c) (s.cell 2 c) (s.cell 3 c)
  match r with
  | 0 => exact h0
  | 1 => exact h1
  | 2 => exact h2
  | 3 => exact h3

@[simp] theorem cell_setcol (s : StateMatrix) (c : Fin 4) (w : Word) (r c' : Fin 4) :
    (setcol s c w).cell r c' = if c' = c then byteOf w r else s.cell r c' :=
  StateMatrix.cell_ofFn _ r c'

theorem colword_setcol (s : StateMatrix) (c c' : Fin 4) (w : Word) :
    colword (setcol s c w) c' = if c' = c then w else colword s c' := by
  apply word_ext
  intro r
  rw [byteOf_colword, cell_setcol]
  split
  · rfl
  · rw [byteOf_colword]

/-- Settles O26: a word is known by its bytes, and the bytes of a column word are the column's entries. -/
theorem columnWordsReadBackWhatIsSet : Obligations.ColumnWordsReadBackWhatIsSet :=
  ⟨fun s r c => byteOf_colword s c r, colword_setcol⟩

end Sys2Proof.Machine
end

section
/-! What a command can leave behind (10_state.md R128, 47_control.md R755, 60_exceptions.md R803), said once for all fourteen,
and which fields of State its result depends on (20_memory.md R217). -/

namespace Sys2Proof.Machine

/-! ### How a command ends -/

/-- The states a command can end in, by what it wrote beside ERR and PENDING (R128): nothing (every failed command, and NOP), the
key schedule, DOUT, STATE or GFR, each register by its own commands and with ERR = OK. -/
inductive CommandEnd (s : State) : Instr → State → Prop
  | onlyErr (i : Instr) (code : ErrCode) : CommandEnd s i (s.commit code)
  | wroteSchedule (kt : KeyType) :
    CommandEnd s (.keyExpand kt) ((s.setSchedule kt (keyExpansion kt s.keyBytes)).commit .ok)
  | wroteDout {i : Instr} (writer : i = .encrypt ∨ i = .decrypt ∨ i = .storeState) (out : Vector Byte 16) :
    CommandEnd s i ((s.setDout out).commit .ok)
  | wroteState {i : Instr}
    (writer : i = .loadState ∨ i = .subBytes ∨ i = .invSubBytes ∨ i = .shiftRows ∨ i = .invShiftRows ∨
      i = .mixColumns ∨ i = .invMixColumns ∨ ∃ rnd, i = .addRoundKey rnd) (m : StateMatrix) :
    CommandEnd s i ((s.setState m).commit .ok)
  | wroteGfr (a b : Byte) : CommandEnd s (.gfMul a b) ((s.setGfr (multiply a b)).commit .ok)

/-- A command that makes checks fails with ERR alone written, or ends as its writes say. -/
theorem commandEnd_of_checked {checks : List (Option ErrCode)} {s done t : State} {i : Instr}
    (h : checked checks s done = .next t) (hdone : CommandEnd s i (done.commit .ok)) : CommandEnd s i t := by
  rcases checked_cases checks s done with ⟨code, -, e⟩ | ⟨-, e⟩ <;> cases e.symm.trans h
  · exact .onlyErr i code
  · exact hdone

/-- The writer table of R128, command by command. -/
theorem exec_commandEnd {i : Instr} {s t : State} (h : exec i s = .next t) : CommandEnd s i t := by
  cases i with
  | nop => cases h; exact .onlyErr _ _
  | keyExpand kt => exact commandEnd_of_checked h (.wroteSchedule kt)
  | encrypt => exact commandEnd_of_checked h (.wroteDout (by simp) _)
  | decrypt => exact commandEnd_of_checked h (.wroteDout (by simp) _)
  | storeState => cases h; exact .wroteDout (by simp) _
  | loadState => exact commandEnd_of_checked h (.wroteState (by simp) _)
  | subBytes => cases h; exact .wroteState (by simp) _
  | invSubBytes => cases h; exact .wroteState (by simp) _
  | shiftRows => cases h; exact .wroteState (by simp) _
  | invShiftRows => cases h; exact .wroteState (by simp) _
  | mixColumns => cases h; exact .wroteState (by simp) _
  | invMixColumns => cases h; exact .wroteState (by simp) _
  | addRoundKey rnd => exact commandEnd_of_checked h (.wroteState (by simp) _)
  | gfMul a b => cases h; exact .wroteGfr a b

/-- An executed word is illegal, and then only ERR and PENDING are written, or it ends as its command does (R752). -/
theorem execute_cases {v : Word} {s t : State} (h : execute v s = .next t) :
    t = s.commit .illegalCommand ∨ ∃ i, CommandEnd s i t := by
  cases hd : decode v with
  | illegal why =>
    rw [execute_of_illegal hd] at h
    cases h
    exact .inl rfl
  | instr i =>
    rw [execute_of_instr hd] at h
    exact .inr ⟨i, exec_commandEnd h⟩

namespace CommandEnd

variable {s t : State} {i : Instr}

theorem pending_eq_none (h : CommandEnd s i t) : t.pending = none := by cases h <;> rfl

theorem drop_eq (h : CommandEnd s i t) : t.drop = s.drop := by cases h <;> rfl

/-- The registers and fields no command writes (R128, R767). -/
theorem frame (h : CommandEnd s i t) :
    t.key = s.key ∧ t.keylen = s.keylen ∧ t.din = s.din ∧ t.blklen = s.blklen ∧ t.drop = s.drop ∧
      t.schedule = s.schedule ∧ t.observed = s.observed ∧ t.draws = s.draws := by
  cases h <;> exact ⟨rfl, rfl, rfl, rfl, rfl, rfl, rfl, rfl⟩

theorem writer_of_schedule_ne (h : CommandEnd s i t) (hne : t.w ≠ s.w ∨ t.ksv ≠ s.ksv ∨ t.kskt ≠ s.kskt) :
    t.err = .ok ∧ ∃ kt, i = .keyExpand kt := by
  cases h with
  | wroteSchedule kt => exact ⟨rfl, kt, rfl⟩
  | _ => simp at hne

theorem writer_of_dout_ne (h : CommandEnd s i t) (hne : t.dout ≠ s.dout) :
    t.err = .ok ∧ (i = .encrypt ∨ i = .decrypt ∨ i = .storeState) := by
  cases h with
  | wroteDout writer out => exact ⟨rfl, writer⟩
  | _ => simp at hne

theorem writer_of_state_ne (h : CommandEnd s i t) (hne : t.state ≠ s.state) :
    t.err = .ok ∧
      (i = .loadState ∨ i = .subBytes ∨ i = .invSubBytes ∨ i = .shiftRows ∨ i = .invShiftRows ∨
        i = .mixColumns ∨ i = .invMixColumns ∨ ∃ rnd, i = .addRoundKey rnd) := by
  cases h with
  | wroteState writer m => exact ⟨rfl, writer⟩
  | _ => simp at hne

theorem writer_of_gfr_ne (h : CommandEnd s i t) (hne : t.gfr ≠ s.gfr) :
    t.err = .ok ∧ ∃ a b, i = .gfMul a b := by
  cases h with
  | wroteGfr a b => exact ⟨rfl, a, b, rfl⟩
  | _ => simp at hne

end CommandEnd

theorem execute_pending {v : Word} {s t : State} (h : execute v s = .next t) : t.pending = none := by
  rcases execute_cases h with rfl | ⟨i, hend⟩
  · rfl
  · exact hend.pending_eq_none

theorem execute_drop {v : Word} {s t : State} (h : execute v s = .next t) : t.drop = s.drop := by
  rcases execute_cases h with rfl | ⟨i, hend⟩
  · rfl
  · exact hend.drop_eq

/-! ### What a command's result does not depend on -/

/-- `s` with the PENDING, DROP and model's own fields of `side`: the fields that no command reads. -/
def State.withSide (s side : State) : State :=
  { s with
    pending := side.pending, drop := side.drop, schedule := side.schedule, observed := side.observed,
    draws := side.draws }

/-- Checks that do not see the side fields, and writes that keep them, give the same end beside any side fields. -/
theorem checked_withSide {checks : List (Option ErrCode)} {s done u : State} (side : State)
    (h : checked checks s done = .next u) :
    checked checks (s.withSide side) (done.withSide side) = .next (u.withSide (side.commit .ok)) := by
  rcases checked_cases checks s done with ⟨code, hc, e⟩ | ⟨hc, e⟩ <;> cases e.symm.trans h
  · exact checked_of_some hc _ _
  · exact checked_of_none hc _ _

/-- A command's result beside other side fields (R217): no command reads PENDING, DROP or the model's own fields. -/
theorem exec_withSide {i : Instr} {s u : State} (side : State) (h : exec i s = .next u) :
    exec i (s.withSide side) = .next (u.withSide (side.commit .ok)) := by
  cases i with
  | nop => cases h; rfl
  | keyExpand kt => exact checked_withSide side h
  | encrypt => exact checked_withSide side h
  | decrypt => exact checked_withSide side h
  | loadState => exact checked_withSide side h
  | storeState => cases h; rfl
  | subBytes => cases h; rfl
  | invSubBytes => cases h; rfl
  | shiftRows => cases h; rfl
  | invShiftRows => cases h; rfl
  | mixColumns => cases h; rfl
  | invMixColumns => cases h; rfl
  | addRoundKey rnd => exact checked_withSide side h
  | gfMul a b => cases h; rfl

theorem execute_withSide {v : Word} {s u : State} (side : State) (h : execute v s = .next u) :
    execute v (s.withSide side) = .next (u.withSide (side.commit .ok)) := by
  cases hd : decode v with
  | illegal why =>
    rw [execute_of_illegal hd] at h ⊢
    cases h
    rfl
  | instr i =>
    rw [execute_of_instr hd] at h ⊢
    exact exec_withSide side h

end Sys2Proof.Machine
end

section
/-! The register map (10_state.md R102, 20_memory.md R202) and what a host access does to the core (R203, R204, R112). -/

namespace Sys2Proof.Machine

/-! ### The register map -/

theorem Reg.offset_aligned (r : Reg) : r.offset % 4 = 0 := by
  cases r <;> simp only [Reg.offset] <;> omega

theorem Reg.offset_le (r : Reg) : r.offset ≤ 0x1FC := by
  cases r <;> simp only [Reg.offset] <;> omega

/-- An access to a register's offset is one the interface defines (R202). -/
theorem Reg.access_defined (r : Reg) : (Access.mk r.offset 32).defined = true := by
  simp [Access.defined, r.offset_aligned, r.offset_le]

/-- Every register is found at its own offset, bank by bank; the largest bank has sixty. -/
@[simp] theorem regAt_offset (r : Reg) : regAt r.offset = some r := by
  cases r with
  | cmd => rfl
  | status => rfl
  | keylen => rfl
  | blklen => rfl
  | gfr => rfl
  | key j => revert j; decide
  | din j => revert j; decide
  | dout j => revert j; decide
  | state c => revert c; decide
  | w i => revert i; decide

/-- At an aligned offset the map finds only the register that lies there. -/
theorem offset_of_regAt {off : Nat} {r : Reg} (haligned : off % 4 = 0) (h : regAt off = some r) : r.offset = off := by
  simp only [regAt, ite_eq_iff, dite_eq_iff, Option.some.injEq, reduceCtorEq] at h
  rcases h with ⟨rfl, rfl⟩ | ⟨-, ⟨rfl, rfl⟩ | ⟨-, ⟨rfl, rfl⟩ | ⟨-, ⟨rfl, rfl⟩ | ⟨-, ⟨rfl, rfl⟩ | ⟨-, ⟨_, rfl⟩ |
    ⟨-, ⟨_, rfl⟩ | ⟨-, ⟨_, rfl⟩ | ⟨-, ⟨_, rfl⟩ | ⟨-, ⟨_, rfl⟩ | ⟨-, ⟨⟩⟩⟩⟩⟩⟩⟩⟩⟩⟩⟩
  all_goals simp only [Reg.offset]
  all_goals omega

/-- The offset is recovered from the platform address, wherever AES_BASE is (R213). -/
theorem windowOffset_address (r : Reg) : windowOffset r.address = some r.offset := by
  have hle := r.offset_le
  have hin : Config.aesBase ≤ Config.aesBase + r.offset ∧ Config.aesBase + r.offset < Config.aesBase + 0x200 := by
    omega
  simp only [windowOffset, Reg.address, if_pos hin, Nat.add_sub_cancel_left]

/-- A defined access at which the map finds `r` is the 32-bit access to `r`'s offset. -/
theorem access_of_regAt {a : Access} {r : Reg} (hdef : a.defined = true) (h : regAt a.offset = some r) :
    a = ⟨r.offset, 32⟩ := by
  obtain ⟨off, width⟩ := a
  simp only [Access.defined, Bool.and_eq_true, decide_eq_true_eq] at hdef
  obtain ⟨⟨rfl, haligned⟩, -⟩ := hdef
  rw [offset_of_regAt haligned h]

/-- The inputs by name: CMD, KEYLEN, BLKLEN, KEY and DIN (R112). -/
theorem Reg.isInput_iff {r : Reg} :
    r.isInput = true ↔ r = .cmd ∨ r = .keylen ∨ r = .blklen ∨ (∃ j, r = .key j) ∨ ∃ j, r = .din j := by
  cases r <;> simp [Reg.isInput]

/-! ### Writes -/

theorem hostWrite_offset_of_dropped {s : State} {r : Reg} (hbusy : s.busy = true) (hin : r.isInput = true) (v : Word) :
    s.hostWrite r.offset v = { s with drop := true } := by
  simp [State.hostWrite, hbusy, hin]

theorem hostWrite_offset_of_accepted {s : State} {r : Reg} (h : s.busy = false ∨ r.isInput = false) (v : Word) :
    s.hostWrite r.offset v = s.writeReg r v := by
  rcases h with h | h <;> simp [State.hostWrite, h]

/-- An accepted write changes DROP only at STATUS, with bit 4 set, and then it clears it (R112). -/
theorem writeReg_drop_ne {s : State} {r : Reg} {v : Word} (h : (s.writeReg r v).drop ≠ s.drop) :
    r = .status ∧ v.getLsbD 4 = true ∧ (s.writeReg r v).drop = false := by
  cases r with
  | status =>
    have hbit : v.getLsbD 4 = true := by
      cases hv : v.getLsbD 4 with
      | true => rfl
      | false => exact absurd (by simp only [State.writeReg, hv, Bool.not_false, Bool.and_true]) h
    exact ⟨rfl, hbit, by simp [State.writeReg, hbit]⟩
  | _ => exact absurd rfl h

/-- The host writes no register of the key schedule (R128). -/
theorem hostWrite_schedule_frame (s : State) (off : Nat) (v : Word) :
    (s.hostWrite off v).ksv = s.ksv ∧ (s.hostWrite off v).kskt = s.kskt ∧ (s.hostWrite off v).w = s.w := by
  rcases hostWrite_cases s off v with ⟨r, -, -, -, e⟩ | ⟨r, -, -, e⟩ | ⟨-, e⟩ <;> rw [e]
  · exact ⟨rfl, rfl, rfl⟩
  · cases r <;> exact ⟨rfl, rfl, rfl⟩
  · exact ⟨rfl, rfl, rfl⟩

/-! ### Steps -/

theorem step_of_engine {s : State} {v : Word} {rest : List Event} (hp : s.pending = some v)
    (hs : s.schedule = .engine :: rest) : step s = execute v { s with schedule := rest } := by
  simp [step, hs, eventStep, engineTurn, hp]

/-- The engine's turn beside other side fields: the result is the one without them (R217). -/
theorem step_withSide_of_engine {s side u : State} {v : Word} {rest : List Event} (hp : side.pending = some v)
    (hs : side.schedule = .engine :: rest) (hu : execute v s = .next u) :
    step (s.withSide side) = .next (u.withSide ({ side with schedule := rest }.commit .ok)) :=
  (step_of_engine (s := s.withSide side) hp hs).trans (execute_withSide (s := s) { side with schedule := rest } hu)

theorem step_of_hostRead {s : State} {a : Access} {rest : List Event} (hdef : a.defined = true)
    (hs : s.schedule = .hostRead a :: rest) : step s = .next ({ s with schedule := rest }.hostRead a.offset) := by
  simp [step, hs, eventStep, hdef]

theorem step_of_hostWrite {s : State} {a : Access} {v : Word} {rest : List Event} (hdef : a.defined = true)
    (hs : s.schedule = .hostWrite a v :: rest) :
    step s = .next ({ s with schedule := rest }.hostWrite a.offset v) := by
  simp [step, hs, eventStep, hdef]

theorem step_of_reset {s : State} {rest : List Event} (hs : s.schedule = .reset :: rest) :
    step s = .next { s with schedule := rest }.platformReset := by
  simp [step, hs, eventStep]

/-- A lost write sets DROP and does nothing else (R112). -/
theorem step_of_wr_dropped {s : State} {r : Reg} {v : Word} {rest : List Event} (hs : s.schedule = wr r v :: rest)
    (hbusy : s.busy = true) (hin : r.isInput = true) : step s = .next { s with schedule := rest, drop := true } :=
  (step_of_hostWrite r.access_defined hs).trans
    (congrArg _ (hostWrite_offset_of_dropped (s := { s with schedule := rest }) hbusy hin v))

/-- Any other write does what its register says (R204). -/
theorem step_of_wr_accepted {s : State} {r : Reg} {v : Word} {rest : List Event} (hs : s.schedule = wr r v :: rest)
    (h : s.busy = false ∨ r.isInput = false) : step s = .next ({ s with schedule := rest }.writeReg r v) :=
  (step_of_hostWrite r.access_defined hs).trans
    (congrArg _ (hostWrite_offset_of_accepted (s := { s with schedule := rest }) h v))

/-- `step_cases` with the three ways the engine comes to execute taken together: what they leave of the schedule differs only. -/
theorem step_cases_by_agent {s t : State} (h : step s = .next t) :
    (∃ v rest, s.pending = some v ∧ execute v { s with schedule := rest } = .next t) ∨
    (∃ rest, s.pending = none ∧ t = { s with schedule := rest }) ∨
    (∃ (a : Access) (rest : List Event), t = { s with schedule := rest }.hostRead a.offset) ∨
    (∃ a v rest, s.schedule = .hostWrite a v :: rest ∧ a.defined = true ∧
      t = { s with schedule := rest }.hostWrite a.offset v) ∨
    (∃ rest, s.schedule = .reset :: rest ∧ t = { s with schedule := rest }.platformReset) := by
  rcases step_cases h with ⟨v, rest, -, hp, he⟩ | ⟨v, -, hp, he⟩ | ⟨rest, -, hp, e⟩ | ⟨a, rest, -, -, e⟩ | hwrite |
    hreset
  · exact .inl ⟨v, rest, hp, he⟩
  · exact .inl ⟨v, s.schedule, hp, he⟩
  · exact .inr (.inl ⟨rest, hp, e⟩)
  · exact .inr (.inr (.inl ⟨a, rest, e⟩))
  · exact .inr (.inr (.inr (.inl hwrite)))
  · exact .inr (.inr (.inr (.inr hreset)))

/-- A host access to a busy core happens, and changes nothing of the core but DROP (R111, R217). -/
theorem step_of_access_busy {s : State} {a : Event} {rest : List Event} (hbusy : s.busy = true)
    (hdef : a.isDefinedAccess = true) (hs : s.schedule = a :: rest) :
    ∃ drop observed draws,
      step s = .next { s with drop := drop, schedule := rest, observed := observed, draws := draws } := by
  cases a with
  | hostRead a => exact ⟨_, _, _, step_of_hostRead hdef hs⟩
  | hostWrite a v =>
    obtain ⟨d, hd⟩ := hostWrite_busy (s := { s with schedule := rest }) hbusy a.offset v
    exact ⟨d, _, _, (step_of_hostWrite hdef hs).trans (congrArg _ hd)⟩
  | engine => cases hdef
  | reset => cases hdef

/-- Any number of host accesses to a busy core change nothing of the core but DROP (R217). -/
theorem run_accesses_busy {s : State} {accesses rest : List Event} (hbusy : s.busy = true)
    (hdef : accesses.all Event.isDefinedAccess = true) (hs : s.schedule = accesses ++ rest) :
    ∃ drop observed draws,
      Host.Core.run core accesses.length s =
        .next { s with drop := drop, schedule := rest, observed := observed, draws := draws } := by
  induction accesses generalizing s with
  | nil => subst hs; exact ⟨_, _, _, rfl⟩
  | cons a accesses ih =>
    obtain ⟨ha, hrest⟩ := Bool.and_eq_true_iff.mp hdef
    obtain ⟨d, o, n, hstep⟩ := step_of_access_busy hbusy ha hs
    obtain ⟨d', o', n', hrun⟩ :=
      ih (s := { s with drop := d, schedule := _, observed := o, draws := n }) hbusy hrest rfl
    exact ⟨d', o', n', (run_succ_of_next hstep _).trans hrun⟩

end Sys2Proof.Machine
end

section
/-! The key-schedule invariant (10_state.md R123) and the rows O24, O10, O11, O14, O19 and O15. -/

namespace Sys2Proof.Machine

/-! ### The key-schedule invariant -/

/-- The invariant speaks of KSV, KSKT and W only. -/
theorem State.ScheduleInv.congr {s t : State} (h : s.ScheduleInv) (hksv : t.ksv = s.ksv) (hkskt : t.kskt = s.kskt)
    (hw : t.w = s.w) : t.ScheduleInv :=
  ⟨by simpa only [hksv, hkskt, hw] using h.valid, by simpa only [hksv, hkskt, hw] using h.absent⟩

theorem scheduleInv_reset : State.reset.ScheduleInv where
  valid h := by cases h
  absent _ := ⟨rfl, fun i => by simp [State.reset]⟩

/-- Every command keeps the invariant: KEY_EXPAND stores the expansion of KEYBYTES with its key type, the others do not write it. -/
theorem CommandEnd.keeps_scheduleInv {s t : State} {i : Instr} (hend : CommandEnd s i t) (h : s.ScheduleInv) :
    t.ScheduleInv := by
  cases hend with
  | wroteSchedule kt => exact ⟨fun _ => ⟨s.keyBytes, rfl⟩, fun hksv => by cases hksv⟩
  | onlyErr => exact h.congr rfl rfl rfl
  | wroteDout => exact h.congr rfl rfl rfl
  | wroteState => exact h.congr rfl rfl rfl
  | wroteGfr => exact h.congr rfl rfl rfl

theorem execute_keeps_scheduleInv {v : Word} {s t : State} (h : s.ScheduleInv) (he : execute v s = .next t) :
    t.ScheduleInv := by
  rcases execute_cases he with rfl | ⟨i, hend⟩
  · exact h.congr rfl rfl rfl
  · exact hend.keeps_scheduleInv h

/-- Settles O24: only the engine and a reset write KSV, KSKT and W. -/
theorem everyStepKeepsScheduleInv : Obligations.EveryStepKeepsScheduleInv := by
  intro s t h hstep
  rcases step_cases_by_agent hstep with ⟨v, rest, -, he⟩ | ⟨rest, -, rfl⟩ | ⟨a, rest, rfl⟩ | ⟨a, v, rest, -, -, rfl⟩ |
    ⟨rest, -, rfl⟩
  · exact execute_keeps_scheduleInv (s := { s with schedule := rest }) (h.congr rfl rfl rfl) he
  · exact h.congr rfl rfl rfl
  · exact h.congr rfl rfl rfl
  · obtain ⟨hksv, hkskt, hw⟩ := hostWrite_schedule_frame { s with schedule := rest } a.offset v
    exact h.congr hksv hkskt hw
  · exact scheduleInv_reset.congr rfl rfl rfl

/-! ### Accepted commands -/

/-- Settles O10: CMD takes the word, the accesses to the busy core move only side fields, and the command reads none of them. -/
theorem commandSeesTheInputsAtAcceptance : Obligations.CommandSeesTheInputsAtAcceptance := by
  intro s u v accesses rest hidle hdef hs hu
  have haccept : step s = .next { s with pending := some v, schedule := accesses ++ .engine :: rest } :=
    step_of_wr_accepted hs (.inl (busy_eq_false_iff.mpr hidle))
  obtain ⟨d, o, n, hrun⟩ := run_accesses_busy
    (s := { s with pending := some v, schedule := accesses ++ .engine :: rest }) rfl hdef rfl
  have hengine := step_withSide_of_engine (s := s)
    (side := { s with pending := some v, drop := d, schedule := .engine :: rest, observed := o, draws := n }) rfl rfl hu
  refine ⟨d, o, n, ?_⟩
  calc Host.Core.run core (accesses.length + 1 + 1) s
      = Host.Core.run core (accesses.length + 1) _ := run_succ_of_next haccept _
    _ = Host.Core.run core 1 _ := run_add 1 hrun
    _ = .next { u with pending := none, drop := d, schedule := rest, observed := o, draws := n } :=
        run_succ_of_next hengine 0
    _ = .next { u with drop := d, schedule := rest, observed := o, draws := n } := by rw [← execute_pending hu]

/-- Settles O11: a command empties PENDING and so does a reset, so the step was a host access to a busy core. -/
theorem busyStepChangesOnlyDrop : Obligations.BusyStepChangesOnlyDrop := by
  intro s t hstep hbusy hbusy'
  obtain ⟨v, hp⟩ := busy_eq_true_iff.mp hbusy
  obtain ⟨v', hp'⟩ := busy_eq_true_iff.mp hbusy'
  rcases step_cases_by_agent hstep with ⟨v, rest, -, he⟩ | ⟨rest, hidle, -⟩ | ⟨a, rest, rfl⟩ |
    ⟨a, x, rest, -, -, rfl⟩ | ⟨rest, -, rfl⟩
  · cases (execute_pending he).symm.trans hp'
  · cases hidle.symm.trans hp
  · rfl
  · obtain ⟨d, hd⟩ := hostWrite_busy (s := { s with schedule := rest }) hbusy a.offset x
    rw [hd]
  · cases hp'

/-! ### Writers -/

/-- Settles O14: the writer table, read off the ways a command ends. -/
theorem commandsWriteOnlyTheirRegisters : Obligations.CommandsWriteOnlyTheirRegisters := by
  intro i s t h
  have hend := exec_commandEnd h
  exact ⟨hend.frame, hend.writer_of_schedule_ne, hend.writer_of_dout_ne, hend.writer_of_state_ne,
    hend.writer_of_gfr_ne⟩

/-- A host write that changes DROP is a lost one, which sets it, or a STATUS write with bit 4 set, which clears it (R112). -/
theorem hostWrite_drop_ne {s : State} {a : Access} {v : Word} (hdef : a.defined = true)
    (h : (s.hostWrite a.offset v).drop ≠ s.drop) :
    ((s.hostWrite a.offset v).drop = true ∧ s.busy = true ∧ ∃ r : Reg, a = ⟨r.offset, 32⟩ ∧ r.isInput = true) ∨
    ((s.hostWrite a.offset v).drop = false ∧ a = ⟨Reg.status.offset, 32⟩ ∧ v.getLsbD 4 = true) := by
  rcases hostWrite_cases s a.offset v with ⟨r, hr, hbusy, hin, e⟩ | ⟨r, hr, -, e⟩ | ⟨-, e⟩ <;> rw [e] at h ⊢
  · exact .inl ⟨rfl, hbusy, r, access_of_regAt hdef hr, hin⟩
  · obtain ⟨rfl, hbit, hclear⟩ := writeReg_drop_ne h
    exact .inr ⟨hclear, access_of_regAt hdef hr, hbit⟩
  · exact absurd rfl h

/-- The only steps that change DROP (R112): no command does. -/
theorem step_drop_ne {s t : State} (hstep : step s = .next t) (hne : t.drop ≠ s.drop) :
    (t.drop = true ∧ s.busy = true ∧ ∃ r v rest, s.schedule = wr r v :: rest ∧ r.isInput = true) ∨
    (t.drop = false ∧ ∃ v rest, s.schedule = wr .status v :: rest ∧ v.getLsbD 4 = true) ∨
    (t.drop = false ∧ ∃ rest, s.schedule = .reset :: rest) := by
  rcases step_cases_by_agent hstep with ⟨v, rest, -, he⟩ | ⟨rest, -, rfl⟩ | ⟨a, rest, rfl⟩ |
    ⟨a, v, rest, hs, hdef, rfl⟩ | ⟨rest, hs, rfl⟩
  · exact absurd (execute_drop he) hne
  · exact absurd rfl hne
  · exact absurd rfl hne
  · rcases hostWrite_drop_ne hdef hne with ⟨hset, hbusy, r, rfl, hin⟩ | ⟨hclear, rfl, hbit⟩
    · exact .inl ⟨hset, hbusy, r, v, rest, hs, hin⟩
    · exact .inr (.inl ⟨hclear, v, rest, hs, hbit⟩)
  · exact .inr (.inr ⟨rfl, rest, hs⟩)

/-- Settles O19: a lost write sets DROP, `step_drop_ne` names every other cause, and STATUS bit 4 and reset clear it. -/
theorem dropMarksExactlyTheLostWrites : Obligations.DropMarksExactlyTheLostWrites := by
  refine ⟨?_, ?_, ?_, ?_⟩
  · intro s r v rest hbusy hin hs
    exact step_of_wr_dropped hs hbusy (Reg.isInput_iff.mpr hin)
  · intro s t hstep hne
    simpa only [Reg.isInput_iff] using step_drop_ne hstep hne
  · intro s v rest hbit hs
    rw [step_of_wr_accepted hs (.inr rfl)]
    simp [State.writeReg, hbit]
  · intro s rest hs
    exact ⟨_, step_of_reset hs, rfl⟩

/-! ### The register map -/

/-- Settles O15: register, offset, access and platform address lead to one another. -/
theorem registerMapIsOneToOne : Obligations.RegisterMapIsOneToOne :=
  fun r => ⟨regAt_offset r, r.access_defined, windowOffset_address r⟩

end Sys2Proof.Machine
end

section
/-! Host accesses offset by offset (20_memory.md R203, R204, R210), the steps that stop nowhere (R753, R806), and the rows O16, O17,
O18, O20 and O21. -/

namespace Sys2Proof.Machine

/-! ### Offsets -/

/-- The reserved offsets of the window (R102, R124). -/
theorem regAt_eq_none_iff {off : Nat} (haligned : off % 4 = 0) :
    regAt off = none ↔ 0x014 ≤ off ∧ off ≤ 0x01C ∨ 0x070 ≤ off ∧ off ≤ 0x0FC ∨ 0x1F0 ≤ off := by
  unfold regAt
  split_ifs <;> simp only [false_iff, true_iff] <;> omega

/-- The offsets of GFR, DOUT, STATE and W (R102). -/
theorem Reg.isResult_iff_offset {r : Reg} :
    r.isResult = true ↔
      r.offset = 0x010 ∨ 0x050 ≤ r.offset ∧ r.offset ≤ 0x06C ∨ 0x100 ≤ r.offset ∧ r.offset ≤ 0x1EC := by
  cases r with
  | cmd | status | keylen | blklen | gfr => decide
  | _ => simp only [Reg.isResult, Reg.offset, reduceCtorEq, false_iff, true_iff]; omega

/-- The offsets of the registers a host write can affect, STATUS and the inputs (R102, R204). -/
theorem Reg.offset_of_writable {r : Reg} (h : r = .status ∨ r.isInput = true) :
    r.offset ≤ 0x00C ∨ 0x020 ≤ r.offset ∧ r.offset ≤ 0x04C := by
  rcases h with rfl | h
  · exact .inl (by decide)
  · rcases Reg.isInput_iff.mp h with rfl | rfl | rfl | ⟨j, rfl⟩ | ⟨j, rfl⟩ <;> simp only [Reg.offset] <;> omega

/-- R202: the access is 32 bits wide, aligned and within the window. -/
theorem Access.defined_iff {a : Access} : a.defined = true ↔ a.width = 32 ∧ a.offset % 4 = 0 ∧ a.offset ≤ 0x1FC := by
  simp only [Access.defined, Bool.and_eq_true, decide_eq_true_eq, and_assoc]

/-! ### Reads -/

theorem readValue_of_reserved {s : State} {off : Nat} (h : regAt off = none) : s.readValue off = 0 := by
  simp only [State.readValue, h]

/-- A specified read returns what the register holds (R203). -/
theorem readValue_offset {s : State} {r : Reg} (h : s.busy = false ∨ r.isResult = false) :
    s.readValue r.offset = s.regValue r := by
  rcases h with h | h <;> simp [State.readValue, h]

theorem readValue_of_unspecified {s : State} {off : Nat} (h : s.readIsUnspecified off = true) :
    s.readValue off = Config.any32 s.draws := by
  unfold State.readIsUnspecified at h
  cases hr : regAt off with
  | none => simp [hr] at h
  | some r =>
    have hbusy : (s.busy && r.isResult) = true := by simpa only [hr] using h
    simp only [State.readValue, hr, hbusy, if_true]

/-- The reads that are unspecified: those of GFR, DOUT, STATE and W while BUSY = 1 (R203, R912). -/
theorem readIsUnspecified_iff {s : State} {off : Nat} (haligned : off % 4 = 0) :
    s.readIsUnspecified off = true ↔
      s.busy = true ∧ (off = 0x010 ∨ 0x050 ≤ off ∧ off ≤ 0x06C ∨ 0x100 ≤ off ∧ off ≤ 0x1EC) := by
  cases hr : regAt off with
  | none =>
    have hreserved := (regAt_eq_none_iff haligned).mp hr
    simp only [State.readIsUnspecified, hr, Bool.false_eq_true, false_iff]
    omega
  | some r =>
    obtain rfl := offset_of_regAt haligned hr
    rw [← Reg.isResult_iff_offset, ← Bool.and_eq_true_iff]
    simp only [State.readIsUnspecified, regAt_offset]

/-- The fields of a STATUS word from the top bit down are the fields shifted to their places (R111). -/
theorem statusFields_eq_shifts (err : BitVec 4) (kskt : BitVec 2) (drop ksv busy : BitVec 1) :
    0#20 ++ err ++ 0#3 ++ drop ++ kskt ++ ksv ++ busy =
      err.setWidth 32 <<< 8 ||| drop.setWidth 32 <<< 4 ||| kskt.setWidth 32 <<< 2 ||| ksv.setWidth 32 <<< 1 |||
        busy.setWidth 32 := by
  apply BitVec.eq_of_getLsbD_eq
  intro i hi
  simp only [BitVec.getLsbD_append]
  interval_cases i <;> simp

/-- An aligned read in the window hands `readValue` to the host and changes no register (R203). -/
theorem step_of_aligned_read {s : State} {off : Nat} {rest : List Event} (haligned : off % 4 = 0) (hle : off ≤ 0x1FC)
    (hs : s.schedule = .hostRead ⟨off, 32⟩ :: rest) :
    step s = .next
      { s with
        schedule := rest
        observed := s.readValue off :: s.observed
        draws := if s.readIsUnspecified off then s.draws + 1 else s.draws } :=
  step_of_hostRead (Access.defined_iff.mpr ⟨rfl, haligned, hle⟩) hs

/-- Settles O16: the offset names its register or is reserved, and the read returns what is there. -/
theorem hostReadReturnsTheRegister : Obligations.HostReadReturnsTheRegister := by
  intro s off rest haligned hle hs
  refine ⟨s.readValue off, _, step_of_aligned_read haligned hle hs, ?cmd, ?status, ?keylen, ?blklen, ?key, ?din, ?gfr,
    ?dout, ?state, ?w, ?reserved⟩
  case cmd => rintro rfl; exact readValue_offset (r := .cmd) (.inr rfl)
  case status =>
    rintro rfl
    exact (readValue_offset (r := .status) (.inr rfl)).trans (statusFields_eq_shifts _ _ _ _ _)
  case keylen => rintro rfl; exact readValue_offset (r := .keylen) (.inr rfl)
  case blklen => rintro rfl; exact readValue_offset (r := .blklen) (.inr rfl)
  case key => rintro j rfl; exact readValue_offset (r := .key j) (.inr rfl)
  case din => rintro j rfl; exact readValue_offset (r := .din j) (.inr rfl)
  case gfr => rintro hidle rfl; exact readValue_offset (r := .gfr) (.inl hidle)
  case dout => rintro hidle j rfl; exact readValue_offset (r := .dout j) (.inl hidle)
  case state => rintro hidle c rfl; exact readValue_offset (r := .state c) (.inl hidle)
  case w => rintro hidle i rfl; exact readValue_offset (r := .w i) (.inl hidle)
  case reserved => exact fun hreserved => readValue_of_reserved ((regAt_eq_none_iff haligned).mpr hreserved)

/-- Settles O17: the two clauses are the unspecified reads and the others. -/
theorem busyResultReadsDrawFreeValues : Obligations.BusyResultReadsDrawFreeValues := by
  intro s off rest haligned hle hs
  rw [← readIsUnspecified_iff haligned]
  have hstep := step_of_aligned_read haligned hle hs
  constructor
  · intro hfree
    rwa [readValue_of_unspecified hfree, if_pos hfree] at hstep
  · intro hspecified
    rw [if_neg hspecified] at hstep
    exact ⟨_, hstep⟩

/-! ### Writes -/

/-- A write to GFR, DOUT, STATE, W or a reserved offset does nothing (R204, R124). -/
theorem hostWrite_of_readOnly {s : State} {off : Nat} {v : Word} (haligned : off % 4 = 0)
    (h : 0x010 ≤ off ∧ off ≤ 0x01C ∨ 0x050 ≤ off) : s.hostWrite off v = s := by
  cases hr : regAt off with
  | none => simp only [State.hostWrite, hr]
  | some r =>
    obtain rfl := offset_of_regAt haligned hr
    have hreadOnly : ¬ (r = .status ∨ r.isInput = true) := fun hw => by
      have := Reg.offset_of_writable hw
      omega
    obtain ⟨hstatus, hinput⟩ := not_or.mp hreadOnly
    rw [hostWrite_offset_of_accepted (.inr (Bool.eq_false_iff.mpr hinput))]
    cases r with
    | gfr => rfl
    | dout j => rfl
    | state c => rfl
    | w i => rfl
    | status => exact absurd rfl hstatus
    | _ => exact absurd rfl hinput

/-- A write to an input register: lost and flagged in DROP while BUSY = 1, made otherwise (R112, R204). -/
theorem step_of_wr_input {s : State} {r : Reg} {v : Word} {rest : List Event} (hin : r.isInput = true)
    (hs : s.schedule = wr r v :: rest) :
    step s = .next
      (if s.busy then { s with schedule := rest, drop := true } else { s with schedule := rest }.writeReg r v) := by
  cases hbusy : s.busy with
  | true => exact step_of_wr_dropped hs hbusy hin
  | false => exact step_of_wr_accepted hs (.inl hbusy)

/-- A write to STATUS clears DROP if bit 4 is set, and does nothing else, BUSY or not (R112, R204). -/
theorem step_of_wr_status {s : State} {v : Word} {rest : List Event} (hs : s.schedule = wr .status v :: rest) :
    step s = .next
      (if v.getLsbD 4 then { s with schedule := rest, drop := false } else { s with schedule := rest }) := by
  rw [step_of_wr_accepted hs (.inr rfl)]
  simp only [State.writeReg]
  cases v.getLsbD 4 <;> simp

/-- Settles O18: the inputs, STATUS, and the offsets where nothing is written. -/
theorem hostWriteDoesWhatItsOffsetSays : Obligations.HostWriteDoesWhatItsOffsetSays := by
  intro s off v rest haligned hle hs
  rw [BitVec.setWidth_eq_extractLsb' (by decide)]
  refine ⟨?cmd, ?status, ?keylen, ?blklen, ?key, ?din, ?readOnly⟩
  case cmd => rintro rfl; exact step_of_wr_input (r := .cmd) rfl hs
  case status => rintro rfl; exact step_of_wr_status hs
  case keylen => rintro rfl; exact step_of_wr_input (r := .keylen) rfl hs
  case blklen => rintro rfl; exact step_of_wr_input (r := .blklen) rfl hs
  case key => rintro j rfl; exact step_of_wr_input (r := .key j) rfl hs
  case din => rintro j rfl; exact step_of_wr_input (r := .din j) rfl hs
  case readOnly =>
    intro hreadOnly
    rw [step_of_hostWrite (Access.defined_iff.mpr ⟨rfl, haligned, hle⟩) hs, hostWrite_of_readOnly haligned hreadOnly]

/-! ### Accesses outside the interface -/

theorem engineOrStop_of_pending {s : State} {v : Word} (h : s.pending = some v)
    (stop : Host.Outcome State Fault Refusal) : engineOrStop stop s = execute v s := by
  simp only [engineOrStop, h]

theorem engineOrStop_of_idle {s : State} (h : s.pending = none) (stop : Host.Outcome State Fault Refusal) :
    engineOrStop stop s = stop := by
  simp only [engineOrStop, h]

/-- At an access outside the interface only the engine can still step (R210). -/
theorem step_of_undefined_access {s : State} {a : Access} {rest : List Event} (hdef : a.defined = false)
    (hs : s.schedule = .hostRead a :: rest ∨ ∃ v, s.schedule = .hostWrite a v :: rest) :
    step s = engineOrStop (.fault .hostStuckOutsideInterface) s := by
  rcases hs with hs | ⟨v, hs⟩ <;> simp [step, hs, eventStep, hdef]

/-- Settles O20: the access is not defined, so the engine finishes or the machine stops. -/
theorem undefinedAccessLeavesTheHostStuck : Obligations.UndefinedAccessLeavesTheHostStuck := by
  intro s a rest houtside hs
  have hdef : a.defined = false := Bool.eq_false_iff.mpr fun h => by
    have := Access.defined_iff.mp h
    omega
  rw [step_of_undefined_access hdef hs]
  exact ⟨fun hidle => engineOrStop_of_idle hidle _, fun v hp => engineOrStop_of_pending hp _⟩

/-! ### No stop within the interface -/

theorem checked_next (checks : List (Option ErrCode)) (s done : State) : ∃ t, checked checks s done = .next t := by
  rcases checked_cases checks s done with ⟨code, -, e⟩ | ⟨-, e⟩
  · exact ⟨_, e⟩
  · exact ⟨_, e⟩

/-- Every command answers a next state (R753): it makes checks or it succeeds. -/
theorem exec_next (i : Instr) (s : State) : ∃ t, exec i s = .next t := by
  cases i with
  | nop => exact ⟨_, rfl⟩
  | keyExpand kt => exact checked_next _ _ _
  | encrypt => exact checked_next _ _ _
  | decrypt => exact checked_next _ _ _
  | loadState => exact checked_next _ _ _
  | storeState => exact ⟨_, rfl⟩
  | subBytes => exact ⟨_, rfl⟩
  | invSubBytes => exact ⟨_, rfl⟩
  | shiftRows => exact ⟨_, rfl⟩
  | invShiftRows => exact ⟨_, rfl⟩
  | mixColumns => exact ⟨_, rfl⟩
  | invMixColumns => exact ⟨_, rfl⟩
  | addRoundKey rnd => exact checked_next _ _ _
  | gfMul a b => exact ⟨_, rfl⟩

theorem execute_next (v : Word) (s : State) : ∃ t, execute v s = .next t := by
  cases hd : decode v with
  | illegal why => exact ⟨_, execute_of_illegal hd s⟩
  | instr i => rw [execute_of_instr hd]; exact exec_next i s

theorem execute_schedule {v : Word} {s t : State} (h : execute v s = .next t) : t.schedule = s.schedule := by
  rcases execute_cases h with rfl | ⟨i, hend⟩
  · rfl
  · obtain ⟨-, -, -, -, -, hschedule, -, -⟩ := hend.frame
    exact hschedule

theorem hostWrite_schedule (s : State) (off : Nat) (v : Word) : (s.hostWrite off v).schedule = s.schedule := by
  rcases hostWrite_cases s off v with ⟨r, -, -, -, e⟩ | ⟨r, -, -, e⟩ | ⟨-, e⟩ <;> rw [e]
  cases r <;> rfl

/-- The engine's turn never stops (R751, R753): it ends the pending command, or passes. -/
theorem engineTurn_next (s : State) : ∃ t, engineTurn s = .next t ∧ t.schedule = s.schedule := by
  rcases engineTurn_cases s with ⟨-, e⟩ | ⟨v, -, e⟩
  · exact ⟨s, e, rfl⟩
  · obtain ⟨t, ht⟩ := execute_next v s
    exact ⟨t, e.trans ht, execute_schedule ht⟩

/-- An event within the interface happens, whatever the state, and the events after it are then to come (R210, R215). -/
theorem step_of_keepsInterface {s : State} {e : Event} {rest : List Event} (he : e.keepsInterface = true)
    (hs : s.schedule = e :: rest) : ∃ t, step s = .next t ∧ t.schedule = rest := by
  cases e with
  | hostWrite a v => exact ⟨_, step_of_hostWrite he hs, hostWrite_schedule _ _ _⟩
  | hostRead a => exact ⟨_, step_of_hostRead he hs, rfl⟩
  | engine =>
    obtain ⟨t, ht, hrest⟩ := engineTurn_next { s with schedule := rest }
    exact ⟨t, by simpa only [step, hs, eventStep] using ht, hrest⟩
  | reset => exact ⟨_, step_of_reset hs, rfl⟩

/-- Settles O21: the next event happens and the rest still keeps the interface, or nothing is to come and the engine ends the
pending command. -/
theorem noStopWhileTheHostKeepsTheInterface : Obligations.NoStopWhileTheHostKeepsTheInterface := by
  intro s hkeeps hagent
  unfold State.hostKeepsInterface at hkeeps ⊢
  cases hs : s.schedule with
  | nil =>
    have hbusy : s.busy = true := by simpa [State.someAgentHasAStep, hs] using hagent
    obtain ⟨v, hp⟩ := busy_eq_true_iff.mp hbusy
    obtain ⟨t, ht⟩ := execute_next v s
    refine ⟨t, ?_, by rw [execute_schedule ht, hs]; rfl⟩
    simpa only [step, hs, engineOrStop_of_pending hp] using ht
  | cons e rest =>
    rw [hs, List.all_cons, Bool.and_eq_true_iff] at hkeeps
    obtain ⟨he, hrest⟩ := hkeeps
    obtain ⟨t, ht, hschedule⟩ := step_of_keepsInterface he hs
    exact ⟨t, ht, hschedule ▸ hrest⟩

end Sys2Proof.Machine
end

section
/-! Command words (30_encoding.md R301 to R309): a word is known by its fields, a word decodes exactly when it matches a row of
the opcode map, an illegal word fails (60_exceptions.md R803), and the rows O1, O2, O3, O4 and O6. -/

namespace Sys2Proof

/-! ### A word is known by its fields (R301) -/

/-- The bits of `RND = zext(v[11:8])`; `rndField` is their number. -/
def rndBits (v : Word) : BitVec 4 := v.extractLsb' 8 4

/-- `v[15:12]`, which no command uses (R301). -/
def unusedBits (v : Word) : BitVec 4 := v.extractLsb' 12 4

theorem rndField_eq_toNat (v : Word) : rndField v = (rndBits v).toNat := rfl

/-- The six fields of CMD32 cover all 32 bits. -/
theorem append_fields (v : Word) :
    bField v ++ aField v ++ unusedBits v ++ rndBits v ++ ktField v ++ opField v = v := by
  apply BitVec.eq_of_getLsbD_eq
  intro i hi
  simp only [bField, aField, unusedBits, rndBits, ktField, opField, BitVec.getLsbD_append, BitVec.getLsbD_extractLsb']
  interval_cases i <;> simp

theorem word_eq_iff_fields {v u : Word} :
    v = u ↔ opField v = opField u ∧ ktField v = ktField u ∧ rndBits v = rndBits u ∧ unusedBits v = unusedBits u ∧
      aField v = aField u ∧ bField v = bField u := by
  constructor
  · rintro rfl
    exact ⟨rfl, rfl, rfl, rfl, rfl, rfl⟩
  · rintro ⟨hop, hkt, hrnd, hunused, ha, hb⟩
    rw [← append_fields v, ← append_fields u, hop, hkt, hrnd, hunused, ha, hb]

theorem rndBits_cmd32 (op : BitVec 6) (kt : BitVec 2) (rnd : BitVec 4) (a b : Byte) :
    rndBits (cmd32 op kt rnd a b) = rnd :=
  BitVec.eq_of_toNat_eq (rndField_cmd32 op kt rnd a b)

theorem unusedBits_cmd32 (op : BitVec 6) (kt : BitVec 2) (rnd : BitVec 4) (a b : Byte) :
    unusedBits (cmd32 op kt rnd a b) = 0 := by
  apply BitVec.eq_of_getLsbD_eq
  intro i hi
  simp only [unusedBits, cmd32, BitVec.getLsbD_extractLsb', BitVec.getLsbD_append]
  interval_cases i <;> simp

/-- The word `cmd32` lays out is the one with those fields and `v[15:12] = 0`. -/
theorem eq_cmd32_iff {v : Word} {op : BitVec 6} {kt : BitVec 2} {rnd : BitVec 4} {a b : Byte} :
    v = cmd32 op kt rnd a b ↔
      opField v = op ∧ ktField v = kt ∧ rndBits v = rnd ∧ unusedBits v = 0 ∧ aField v = a ∧ bField v = b := by
  rw [word_eq_iff_fields, opField_cmd32, ktField_cmd32, rndBits_cmd32, unusedBits_cmd32, aField_cmd32, bField_cmd32]

/-! ### Masked words, field by field -/

theorem opField_and (v m : Word) : opField (v &&& m) = opField v &&& opField m := BitVec.extractLsb'_and

/-- Every match word of R303 is an opcode with its other fields 0, so matching it compares each field under its part of the mask. -/
theorem and_eq_opcode_iff {v m : Word} (op : BitVec 6) :
    v &&& m = cmd32 op 0 0 0 0 ↔
      opField v &&& opField m = op ∧ ktField v &&& ktField m = 0#2 ∧ rndBits v &&& rndBits m = 0#4 ∧
        unusedBits v &&& unusedBits m = 0#4 ∧ aField v &&& aField m = 0#8 ∧ bField v &&& bField m = 0#8 := by
  simp only [eq_cmd32_iff, opField, ktField, rndBits, unusedBits, aField, bField, BitVec.extractLsb'_and,
    BitVec.ofNat_eq_ofNat]

/-- The mask of a row without a field (R303). -/
theorem and_fullMask (v : Word) : v &&& 0xFFFFFFFF = v := BitVec.and_allOnes

/-! The words that match a row with fields (R303) are the command's with their own fields, and no other bit: where the mask is all
ones the field is compared, where it is 0 the field is free. -/

theorem matches_keyExpand_iff {v : Word} : v &&& 0xFFFFFF3F = 0x00000001 ↔ v = cmd32 0x01 (ktField v) 0 0 0 := by
  refine (and_eq_opcode_iff 0x01).trans ?_
  change opField v &&& BitVec.allOnes 6 = 0x01 ∧ ktField v &&& 0#2 = 0#2 ∧ rndBits v &&& BitVec.allOnes 4 = 0#4 ∧
    unusedBits v &&& BitVec.allOnes 4 = 0#4 ∧ aField v &&& BitVec.allOnes 8 = 0#8 ∧ bField v &&& BitVec.allOnes 8 = 0#8 ↔ _
  simp only [eq_cmd32_iff, BitVec.and_allOnes, BitVec.and_zero, true_and, BitVec.ofNat_eq_ofNat]

theorem matches_addRoundKey_iff {v : Word} : v &&& 0xFFFFF0FF = 0x0000000E ↔ v = cmd32 0x0E 0 (rndBits v) 0 0 := by
  refine (and_eq_opcode_iff 0x0E).trans ?_
  change opField v &&& BitVec.allOnes 6 = 0x0E ∧ ktField v &&& BitVec.allOnes 2 = 0#2 ∧ rndBits v &&& 0#4 = 0#4 ∧
    unusedBits v &&& BitVec.allOnes 4 = 0#4 ∧ aField v &&& BitVec.allOnes 8 = 0#8 ∧ bField v &&& BitVec.allOnes 8 = 0#8 ↔ _
  simp only [eq_cmd32_iff, BitVec.and_allOnes, BitVec.and_zero, true_and, BitVec.ofNat_eq_ofNat]

theorem matches_gfMul_iff {v : Word} : v &&& 0x0000FFFF = 0x00000010 ↔ v = cmd32 0x10 0 0 (aField v) (bField v) := by
  refine (and_eq_opcode_iff 0x10).trans ?_
  change opField v &&& BitVec.allOnes 6 = 0x10 ∧ ktField v &&& BitVec.allOnes 2 = 0#2 ∧
    rndBits v &&& BitVec.allOnes 4 = 0#4 ∧ unusedBits v &&& BitVec.allOnes 4 = 0#4 ∧ aField v &&& 0#8 = 0#8 ∧
    bField v &&& 0#8 = 0#8 ↔ _
  simp only [eq_cmd32_iff, BitVec.and_allOnes, BitVec.and_zero, true_and, BitVec.ofNat_eq_ofNat]

/-! ### Matching a row (R303, R304) -/

/-- Every row's mask covers OP, and its match word holds its opcode there. -/
theorem opcodeMap_masks_cover_op :
    ∀ row ∈ opcodeMap, opField row.mask = BitVec.allOnes 6 ∧ opField row.matchWord = row.opcode := by decide

theorem rowOfOpcode_opcode : ∀ row ∈ opcodeMap, rowOfOpcode row.opcode = some row := by decide

theorem decode_of_match {v : Word} {row : OpcodeRow} (hrow : row ∈ opcodeMap) (hm : v &&& row.mask = row.matchWord) :
    decode v = commandOf row.name v := by
  obtain ⟨hmask, hmatch⟩ := opcodeMap_masks_cover_op row hrow
  have hop : opField v = row.opcode := by
    rw [← hmatch, ← hm, opField_and, hmask, BitVec.and_allOnes]
  simp only [decode, hop, rowOfOpcode_opcode row hrow, hm, if_true]

/-- A word decodes to a command exactly when it matches a row and the row gives it that command. -/
theorem decode_eq_instr_iff {v : Word} {i : Instr} :
    decode v = .instr i ↔
      ∃ row ∈ opcodeMap, v &&& row.mask = row.matchWord ∧ commandOf row.name v = .instr i := by
  constructor
  · intro h
    rcases decode_cases v with ⟨-, e⟩ | ⟨row, hrow, ⟨-, e⟩ | ⟨hm, e⟩⟩
    · rw [e] at h; cases h
    · rw [e] at h; cases h
    · exact ⟨row, (rowOfOpcode_some hrow).1, hm, e ▸ h⟩
  · rintro ⟨row, hrow, hm, h⟩
    rw [decode_of_match hrow hm, h]

/-! ### Decoding after encoding -/

/-- Settles O1: the word of a command with fields matches its row, which reads the fields back; the other words are closed. -/
theorem decodeOfEncodeIsTheCommand : Obligations.DecodeOfEncodeIsTheCommand := by
  intro i hwf
  cases i with
  | keyExpand kt =>
    have hm : encode (.keyExpand kt) &&& 0xFFFFFF3F = 0x00000001 :=
      matches_keyExpand_iff.mpr (by rw [encode, ktField_cmd32])
    rw [decode_of_match (row := ⟨0x01, .keyExpand, 0x00000001, 0xFFFFFF3F⟩) (by decide) hm]
    simp only [commandOf, encode, ktField_cmd32, KeyType.ofCode_code]
  | addRoundKey rnd =>
    have hrnd : rnd < 2 ^ 4 := Nat.lt_succ_of_le (of_decide_eq_true hwf)
    have hm : encode (.addRoundKey rnd) &&& 0xFFFFF0FF = 0x0000000E :=
      matches_addRoundKey_iff.mpr (by rw [encode, rndBits_cmd32])
    rw [decode_of_match (row := ⟨0x0E, .addRoundKey, 0x0000000E, 0xFFFFF0FF⟩) (by decide) hm]
    simp only [commandOf, encode, rndField_cmd32, BitVec.toNat_ofNat, Nat.mod_eq_of_lt hrnd]
  | gfMul a b =>
    have hm : encode (.gfMul a b) &&& 0x0000FFFF = 0x00000010 :=
      matches_gfMul_iff.mpr (by rw [encode, aField_cmd32, bField_cmd32])
    rw [decode_of_match (row := ⟨0x10, .gfMul, 0x00000010, 0x0000FFFF⟩) (by decide) hm]
    simp only [commandOf, encode, aField_cmd32, bField_cmd32]
  | _ => rfl

/-! ### Encoding after decoding -/

/-- The rows with a field are those of KEY_EXPAND, ADD_ROUND_KEY and GF_MUL (R303). -/
theorem opcodeMap_cases :
    ∀ row ∈ opcodeMap, row.mask = 0xFFFFFFFF ∨ row = ⟨0x01, .keyExpand, 0x00000001, 0xFFFFFF3F⟩ ∨
      row = ⟨0x0E, .addRoundKey, 0x0000000E, 0xFFFFF0FF⟩ ∨ row = ⟨0x10, .gfMul, 0x00000010, 0x0000FFFF⟩ := by decide

/-- The match word of a row is itself the word of a command, with every field 0. -/
theorem exists_encode_eq_matchWord {row : OpcodeRow} (hrow : row ∈ opcodeMap) :
    ∃ i : Instr, i.wf = true ∧ encode i = row.matchWord := by
  fin_cases hrow
  exacts [⟨.nop, rfl, rfl⟩, ⟨.keyExpand .aes128, rfl, rfl⟩, ⟨.encrypt, rfl, rfl⟩, ⟨.decrypt, rfl, rfl⟩,
    ⟨.loadState, rfl, rfl⟩, ⟨.storeState, rfl, rfl⟩, ⟨.subBytes, rfl, rfl⟩, ⟨.invSubBytes, rfl, rfl⟩,
    ⟨.shiftRows, rfl, rfl⟩, ⟨.invShiftRows, rfl, rfl⟩, ⟨.mixColumns, rfl, rfl⟩, ⟨.invMixColumns, rfl, rfl⟩,
    ⟨.addRoundKey 0, rfl, rfl⟩, ⟨.gfMul 0 0, rfl, rfl⟩]

/-- Settles O2: a word that matches a row without a field is that row's match word, and O1 applies; any other is the word of its
command with the word's own fields. -/
theorem encodeOfDecodeIsTheWord : Obligations.EncodeOfDecodeIsTheWord := by
  intro v i hdecode
  obtain ⟨row, hrow, hm, hi⟩ := decode_eq_instr_iff.mp hdecode
  rcases opcodeMap_cases row hrow with hmask | rfl | rfl | rfl
  · obtain ⟨j, hwf, hj⟩ := exists_encode_eq_matchWord hrow
    have hv : encode j = v := by rw [hj, ← hm, hmask, and_fullMask]
    obtain rfl : j = i := by
      have hdecodej := decodeOfEncodeIsTheCommand j hwf
      rw [hv, hdecode] at hdecodej
      exact (Decoded.instr.inj hdecodej).symm
    exact ⟨hwf, hv⟩
  · cases hkt : KeyType.ofCode (ktField v) with
    | none => simp [commandOf, hkt] at hi
    | some kt =>
      obtain rfl : .keyExpand kt = i := by simpa [commandOf, hkt] using hi
      refine ⟨rfl, ?_⟩
      rw [encode, KeyType.code_of_ofCode hkt]
      exact (matches_keyExpand_iff.mp hm).symm
  · cases hi
    refine ⟨decide_eq_true (Nat.le_of_lt_succ (rndBits v).isLt), ?_⟩
    rw [encode, rndField_eq_toNat, BitVec.ofNat_toNat, BitVec.setWidth_eq]
    exact (matches_addRoundKey_iff.mp hm).symm
  · cases hi
    exact ⟨rfl, (matches_gfMul_iff.mp hm).symm⟩

/-! ### The legal words -/

theorem KeyType.ofCode_eq_none_iff {c : BitVec 2} : KeyType.ofCode c = none ↔ c = 3 := by
  revert c; decide

/-- A matching row gives a command, but for KEY_EXPAND with KT = 3 (R304). -/
theorem commandOf_legal_iff {name : CommandName} {v : Word} :
    (∃ i, commandOf name v = .instr i) ↔ (name = .keyExpand → ktField v ≠ 3) := by
  cases name with
  | keyExpand =>
    rw [Ne, ← KeyType.ofCode_eq_none_iff]
    unfold commandOf
    cases KeyType.ofCode (ktField v) <;> simp
  | _ => simp [commandOf]

theorem legal_iff {v : Word} :
    (∃ i, decode v = .instr i) ↔
      ∃ row ∈ opcodeMap, v &&& row.mask = row.matchWord ∧ (row.name = .keyExpand → ktField v ≠ 3) := by
  simp only [decode_eq_instr_iff, ← commandOf_legal_iff]
  constructor
  · rintro ⟨i, row, hrow, hm, h⟩
    exact ⟨row, hrow, hm, i, h⟩
  · rintro ⟨row, hrow, hm, i, h⟩
    exact ⟨i, row, hrow, hm, h⟩

/-- Settles O3: the rows one by one, KEY_EXPAND's brought to the front on both sides. -/
theorem legalWordsAreExactlyTheMap : Obligations.LegalWordsAreExactlyTheMap := by
  intro v
  rw [legal_iff]
  simp only [opcodeMap, List.exists_mem_cons_iff, List.not_mem_nil, and_fullMask, reduceCtorEq, false_and, exists_false,
    false_imp_iff, true_imp_iff, and_true, or_false]
  change _ ↔ _ ∨ (_ ∧ ktField v ≠ 3) ∨ _
  simp only [or_left_comm (b := v &&& 0xFFFFFF3F = 0x00000001 ∧ ktField v ≠ 3), or_assoc]

/-- Settles O4: the nine words are closed. -/
theorem sampleWordsDecodeAsTheMapSays : Obligations.SampleWordsDecodeAsTheMapSays := by
  unfold Obligations.SampleWordsDecodeAsTheMapSays
  decide

end Sys2Proof

namespace Sys2Proof.Machine

/-! ### An illegal word -/

/-- Settles O6: either way the step executes the pending word, which is illegal. -/
theorem illegalWordFailsAndChangesOnlyErr : Obligations.IllegalWordFailsAndChangesOnlyErr := by
  intro s v why hp hd
  constructor
  · intro hs
    have hstep : step s = execute v s := by simp only [step, hs, engineOrStop_of_pending hp]
    exact hstep.trans (execute_of_illegal hd s)
  · intro rest hs
    exact (step_of_engine hp hs).trans (execute_of_illegal hd _)

end Sys2Proof.Machine
end

section
/-! Arithmetic in GF(2^8) (40_finite_field.md R402 to R409) and the rows O27, O28 and O29. The one idea: a map that keeps xor and
commutes with x_time is multiplication by its value at 1, so commutativity and associativity need no separate computation. -/

namespace Sys2Proof.Machine

/-! ### The loop of multiply (R406) -/

theorem multiplyLoop_zero_right (n : Nat) (a r : Byte) : multiplyLoop n a 0 r = r := by
  cases n with
  | zero => rfl
  | succ n => exact if_pos rfl

/-- The early exit of R406 changes no result: with no bit of `b` left, the remaining turns add nothing. -/
theorem multiplyLoop_succ (n : Nat) (a b r : Byte) :
    multiplyLoop (n + 1) a b r = multiplyLoop n (xTime a) (b >>> 1) (if b.getLsbD 0 then r ^^^ a else r) := by
  by_cases hb : b = 0
  · subst hb
    exact (multiplyLoop_zero_right _ _ _).trans (multiplyLoop_zero_right _ _ _).symm
  · exact if_neg hb

theorem xTimeIter_succ_eq (n : Nat) (x : Byte) : xTimeIter (n + 1) x = xTimeIter n (xTime x) := by
  induction n with
  | zero => rfl
  | succ n ih => exact congrArg xTime ih

/-- Turn `k` of the loop adds `x_time^k(a)` where bit `k` of `b` is 1. -/
theorem multiplyLoop_eq_foldl (n : Nat) (a b r : Byte) :
    multiplyLoop n a b r = (List.range n).foldl (fun r k => if b.getLsbD k then r ^^^ xTimeIter k a else r) r := by
  induction n generalizing a b r with
  | zero => rfl
  | succ n ih =>
    rw [multiplyLoop_succ, ih, List.range_succ_eq_map, List.foldl_cons, List.foldl_map]
    simp only [BitVec.getLsbD_ushiftRight, Nat.add_comm 1, Nat.succ_eq_add_one, xTimeIter_succ_eq]
    rfl

/-- Settles O29: GFR is the result of the loop, turn by turn. -/
theorem gfMulLeavesTheProduct : Obligations.GfMulLeavesTheProduct := by
  intro a b s
  rw [← multiplyLoop_eq_foldl]
  exact succeed_eq (s.setGfr (multiply a b))

/-! ### Maps that are linear over the field -/

theorem xor_xor_xor_comm (a b c d : Byte) : a ^^^ b ^^^ (c ^^^ d) = a ^^^ c ^^^ (b ^^^ d) := by ac_rfl

theorem xTime_eq_xor (x : Byte) : xTime x = x <<< 1 ^^^ if x.getLsbD 7 then 0x1B else 0 := by
  unfold xTime
  split
  · rfl
  · exact (BitVec.xor_zero).symm

/-- Reduction by 0x11B is decided by the top bit alone, and the top bit of a sum is the sum of the top bits. -/
theorem xTime_xor (x y : Byte) : xTime (x ^^^ y) = xTime x ^^^ xTime y := by
  simp only [xTime_eq_xor, BitVec.getLsbD_xor, BitVec.shiftLeft_xor_distrib, xor_xor_xor_comm (x <<< 1)]
  congr 1
  cases x.getLsbD 7 <;> cases y.getLsbD 7 <;> rfl

/-- `f` keeps sums (R402) and commutes with multiplication by the field element x (R403). -/
structure FieldLinear (f : Byte → Byte) : Prop where
  map_xor (x y : Byte) : f (x ^^^ y) = f x ^^^ f y
  map_xTime (x : Byte) : f (xTime x) = xTime (f x)

theorem fieldLinear_xTime : FieldLinear xTime := ⟨xTime_xor, fun _ => rfl⟩

namespace FieldLinear

variable {f g : Byte → Byte}

theorem comp (hf : FieldLinear f) (hg : FieldLinear g) : FieldLinear (f ∘ g) where
  map_xor x y := by simp only [Function.comp_apply, hg.map_xor, hf.map_xor]
  map_xTime x := by simp only [Function.comp_apply, hg.map_xTime, hf.map_xTime]

theorem map_zero (hf : FieldLinear f) : f 0 = 0 := by
  have h := hf.map_xor 0 0
  rwa [BitVec.xor_self, BitVec.xor_self] at h

theorem map_multiplyLoop (hf : FieldLinear f) (n : Nat) (a b r : Byte) :
    f (multiplyLoop n a b r) = multiplyLoop n (f a) b (f r) := by
  induction n generalizing a b r with
  | zero => rfl
  | succ n ih => rw [multiplyLoop_succ, multiplyLoop_succ, ih, hf.map_xTime, apply_ite f, hf.map_xor]

theorem map_multiply (hf : FieldLinear f) (x y : Byte) : f (multiply x y) = multiply (f x) y := by
  rw [multiply, hf.map_multiplyLoop, hf.map_zero, multiply]

end FieldLinear

/-! ### Laws of the field (R402, R407) -/

/-- The loop started at 1 collects the bits of `x` at their own places. -/
theorem one_multiply : ∀ x, multiply 1 x = x := by decide

/-- A linear map is multiplication by its value at 1. -/
theorem FieldLinear.eq_multiply {f : Byte → Byte} (hf : FieldLinear f) (x : Byte) : f x = multiply (f 1) x := by
  rw [← hf.map_multiply, one_multiply]

theorem multiplyLoop_xor (n : Nat) (a a' b r r' : Byte) :
    multiplyLoop n (a ^^^ a') b (r ^^^ r') = multiplyLoop n a b r ^^^ multiplyLoop n a' b r' := by
  induction n generalizing a a' b r r' with
  | zero => rfl
  | succ n ih =>
    simp only [multiplyLoop_succ, xTime_xor, ← ih]
    cases b.getLsbD 0 with
    | false => rfl
    | true => simp only [if_true, xor_xor_xor_comm r r']

/-- Multiplication by a fixed byte is linear in the other factor. -/
theorem fieldLinear_multiply_left (y : Byte) : FieldLinear (multiply · y) where
  map_xor x x' := multiplyLoop_xor 8 x x' y 0 0
  map_xTime x := (fieldLinear_xTime.map_multiply x y).symm

theorem multiply_comm (x y : Byte) : multiply x y = multiply y x := by
  have h := (fieldLinear_multiply_left y).eq_multiply x
  rwa [one_multiply] at h

theorem multiply_assoc (x y z : Byte) : multiply (multiply x y) z = multiply x (multiply y z) := by
  have h := ((fieldLinear_multiply_left z).comp (fieldLinear_multiply_left y)).eq_multiply x
  simp only [Function.comp_apply, one_multiply] at h
  rw [h, multiply_comm]

theorem zero_multiply (y : Byte) : multiply 0 y = 0 := (fieldLinear_multiply_left y).map_zero

theorem multiply_one (x : Byte) : multiply x 1 = x := by rw [multiply_comm, one_multiply]

theorem multiply_zero (x : Byte) : multiply x 0 = 0 := by rw [multiply_comm, zero_multiply]

theorem xor_multiply (x x' y : Byte) : multiply (x ^^^ x') y = multiply x y ^^^ multiply x' y :=
  (fieldLinear_multiply_left y).map_xor x x'

theorem multiply_xor (x y z : Byte) : multiply x (y ^^^ z) = multiply x y ^^^ multiply x z := by
  rw [multiply_comm, xor_multiply, multiply_comm y, multiply_comm z]

/-- 0x02 is the field element x. -/
theorem two_multiply (x : Byte) : multiply 0x02 x = xTime x := (fieldLinear_xTime.eq_multiply x).symm

theorem multiply_two (x : Byte) : multiply x 0x02 = xTime x := by rw [multiply_comm, two_multiply]

/-! ### Inverses (R407)

Squaring is additive in characteristic 2, so `x ↦ x^256` is linear, and it is the identity because it fixes the element x. Hence
`x^255` is idempotent; 0 and 1 are the only idempotents, and `x^255 = 0` only for `x = 0`. -/

def square (x : Byte) : Byte := multiply x x

theorem square_xor (x y : Byte) : square (x ^^^ y) = square x ^^^ square y := by
  simp only [square, multiply_xor, xor_multiply]
  rw [multiply_comm y x, BitVec.xor_comm (multiply x y) (multiply y y), xor_xor_xor_comm, BitVec.xor_self,
    BitVec.xor_zero]

theorem square_multiply (x y : Byte) : square (multiply x y) = multiply (square x) (square y) := by
  simp only [square, multiply_assoc]
  rw [← multiply_assoc y x, multiply_comm y x, multiply_assoc]

theorem fieldLinear_square_iterate_eight : FieldLinear square^[8] where
  map_xor := Function.Semiconj₂.iterate square_xor 8
  map_xTime x := by
    have h : square^[8] 0x02 = 0x02 := by decide
    rw [← two_multiply, Function.Semiconj₂.iterate square_multiply, h, two_multiply]

/-- `x^256 = x`. -/
theorem square_iterate_eight (x : Byte) : square^[8] x = x := by
  have h : square^[8] 1 = 1 := by decide
  rw [fieldLinear_square_iterate_eight.eq_multiply, h, one_multiply]

/-- `x` to the power `2^n - 1`. -/
def powOnes : Nat → Byte → Byte
  | 0, _ => 1
  | n + 1, x => multiply x (square (powOnes n x))

theorem multiply_powOnes (n : Nat) (x : Byte) : multiply x (powOnes n x) = square^[n] x := by
  induction n with
  | zero => exact multiply_one x
  | succ n ih => rw [Function.iterate_succ_apply', ← ih, square_multiply, powOnes, ← multiply_assoc, ← square]

/-- `e^2 = e` has only the roots 0 and 1: this is where it counts that 0x11B is irreducible (R401). -/
theorem eq_zero_or_one_of_idempotent : ∀ e : Byte, multiply e e = e → e = 0 ∨ e = 1 := by decide

/-- Where `x·x·c = x`, the product `x·c` is idempotent, and it is 0 only with `x`. -/
theorem multiply_eq_one_of_regular {x c : Byte} (hx : x ≠ 0) (h : multiply x (multiply x c) = x) : multiply x c = 1 := by
  have hidem : multiply (multiply x c) (multiply x c) = multiply x c := by
    rw [← multiply_assoc, multiply_comm _ x, h]
  rcases eq_zero_or_one_of_idempotent _ hidem with h0 | h1
  · rw [h0, multiply_zero] at h
    exact absurd h.symm hx
  · exact h1

/-- The inverse is `x^254`. -/
theorem exists_multiply_eq_one {x : Byte} (hx : x ≠ 0) : ∃ y, multiply x y = 1 :=
  ⟨square (powOnes 7 x), multiply_eq_one_of_regular hx ((multiply_powOnes 8 x).trans (square_iterate_eight x))⟩

theorem inverse_unique {x y y' : Byte} (h : multiply x y = 1) (h' : multiply x y' = 1) : y' = y :=
  calc y' = multiply (multiply x y) y' := by rw [h, one_multiply]
    _ = multiply y (multiply x y') := by rw [multiply_comm x, multiply_assoc]
    _ = y := by rw [h', multiply_one]

/-- Settles O27: the laws of add are those of xor; those of multiply are the lemmas above. -/
theorem fieldLaws : Obligations.FieldLaws := by
  refine ⟨fun _ _ => rfl, BitVec.xor_comm, BitVec.xor_assoc, fun _ => BitVec.xor_self, fun _ => BitVec.xor_zero,
    multiply_one, multiply_zero, zero_multiply, multiply_comm, multiply_assoc, multiply_xor, fun x hx => ?_⟩
  obtain ⟨y, hy⟩ := exists_multiply_eq_one hx
  exact ⟨y, hy, fun y' hy' => inverse_unique hy hy'⟩

/-! ### The 0x02 and 0x03 elements (R404, R405, R408) -/

theorem multiply_three (x : Byte) : multiply x 0x03 = xTime x ^^^ x := by
  have h : (0x03 : Byte) = 0x02 ^^^ 0x01 := rfl
  rw [h, multiply_xor, multiply_two, multiply_one]

/-- 0x8D is the inverse of 0x02, so multiplying by it undoes x_time. -/
theorem xTime_leftInverse : Function.LeftInverse (multiply · 0x8D) xTime := by
  intro x
  have h : multiply 0x02 0x8D = 1 := by decide
  change multiply (xTime x) 0x8D = x
  rw [← multiply_two, multiply_assoc, h, multiply_one]

/-- Settles O28: 0x03 = 0x02 + 0x01, and x_time has a left inverse. -/
theorem basisMultipliersAgree : Obligations.BasisMultipliersAgree :=
  ⟨fun x => ⟨multiply_two x, multiply_three x⟩, fun _ _ h => xTime_leftInverse.injective h⟩

end Sys2Proof.Machine
end

section
/-! SubBytes, InvSubBytes and their commands (41_subbytes.md R451 to R460) and the rows O30, O31 and O32. The facts that are the
tables' own (one table undoes the other, the inverse table is the inverse construction, no fixed points) are each checked entry by
entry once; all else follows from them. -/

namespace Sys2Proof.Machine

/-! ### The tables undo each other (R455, R456) -/

@[simp] theorem invSbox_sbox : ∀ b, invSbox (sbox b) = b := by decide

/-- A one-to-one map of the bytes to the bytes is a bijection (R455), so what undoes it from one side does so from the other. -/
@[simp] theorem sbox_invSbox (b : Byte) : sbox (invSbox b) = b := by
  have hleft : Function.LeftInverse invSbox sbox := invSbox_sbox
  have hsurj : Function.Surjective sbox := Finite.surjective_of_injective hleft.injective
  exact hleft.rightInverse_of_surjective hsurj b

theorem sbox_ne_self : ∀ b, sbox b ≠ b := by decide

theorem sbox_ne_complement : ∀ b, sbox b ≠ b ^^^ 0xFF := by decide

/-! ### The construction of the forward table (R453) -/

theorem getLsbD_rotateRight_byte (x : Byte) {k i : Nat} (hk : k < 8) (hi : i < 8) :
    (x.rotateRight k).getLsbD i = x.getLsbD ((i + k) % 8) := by
  rw [BitVec.getLsbD_rotateRight, Nat.mod_eq_of_lt hk]
  by_cases h : i < 8 - k
  · rw [decide_eq_true h, cond_true, Nat.mod_eq_of_lt (by omega), Nat.add_comm]
  · have hwrap : (i + k) % 8 = i - (8 - k) := by omega
    rw [decide_eq_false h, cond_false, decide_eq_true hi, Bool.true_and, hwrap]

/-- The affine map of R453; rotating right by k brings bit i + k to place i. -/
def affineMap (x : Byte) : Byte :=
  x ^^^ x.rotateRight 4 ^^^ x.rotateRight 5 ^^^ x.rotateRight 6 ^^^ x.rotateRight 7 ^^^ 0x63

theorem getLsbD_affineMap (x : Byte) (i : Fin 8) :
    (affineMap x).getLsbD i.val =
      (x.getLsbD i.val ^^ x.getLsbD ((i.val + 4) % 8) ^^ x.getLsbD ((i.val + 5) % 8) ^^
        x.getLsbD ((i.val + 6) % 8) ^^ x.getLsbD ((i.val + 7) % 8) ^^ (0x63 : Byte).getLsbD i.val) := by
  simp only [affineMap, BitVec.getLsbD_xor, getLsbD_rotateRight_byte x _ i.isLt, Nat.reduceLT]

/-- Undoing the affine image of `x` by the inverse table gives the field inverse of `x`. -/
theorem multiply_invSbox_affineMap : ∀ x : Byte, x ≠ 0 → multiply x (invSbox (affineMap x)) = 1 := by decide

theorem sbox_zero : sbox 0 = affineMap 0 := rfl

/-- A byte has one inverse, so `b` is what the inverse table gives at the affine image of `x`. -/
theorem sbox_eq_affineMap_of_inverse {b x : Byte} (h : multiply b x = 1) : sbox b = affineMap x := by
  have hx : x ≠ 0 := by
    rintro rfl
    rw [multiply_zero] at h
    exact absurd h (by decide)
  have hb : b = invSbox (affineMap x) := by
    rw [multiply_comm] at h
    exact inverse_unique (multiply_invSbox_affineMap x hx) h
  rw [hb, sbox_invSbox]

/-- Settles O30: at a byte and its field inverse, and at 0, the table holds the affine image; bit i of that is the sum. -/
theorem sboxIsInverseThenAffineMap : Obligations.SboxIsInverseThenAffineMap := by
  intro b x hinv i
  have hsbox : sbox b = affineMap x := by
    rcases hinv with h | ⟨rfl, rfl⟩
    · exact sbox_eq_affineMap_of_inverse h
    · exact sbox_zero
  rw [hsbox, getLsbD_affineMap]

/-! ### The transforms (R451, R452, R456) -/

@[simp] theorem cell_subBytes (s : StateMatrix) (r c : Fin 4) : (subBytes s).cell r c = sbox (s.cell r c) :=
  StateMatrix.cell_ofFn _ r c

@[simp] theorem cell_invSubBytes (s : StateMatrix) (r c : Fin 4) : (invSubBytes s).cell r c = invSbox (s.cell r c) :=
  StateMatrix.cell_ofFn _ r c

@[simp] theorem invSubBytes_subBytes (s : StateMatrix) : invSubBytes (subBytes s) = s :=
  StateMatrix.ext_cell fun r c => by rw [cell_invSubBytes, cell_subBytes, invSbox_sbox]

@[simp] theorem subBytes_invSubBytes (s : StateMatrix) : subBytes (invSubBytes s) = s :=
  StateMatrix.ext_cell fun r c => by rw [cell_subBytes, cell_invSubBytes, sbox_invSbox]

/-- Settles O31: both transforms act byte by byte, so they undo each other because the tables do. -/
theorem subBytesAndInverseUndoEachOther : Obligations.SubBytesAndInverseUndoEachOther :=
  ⟨fun s r c => ⟨cell_subBytes s r c, cell_invSubBytes s r c⟩, invSubBytes_subBytes, subBytes_invSubBytes,
    fun b => ⟨sbox_ne_self b, sbox_ne_complement b⟩⟩

/-! ### The commands (R459, R460) -/

theorem exec_subBytes (s : State) : exec .subBytes s = .next ((s.setState (subBytes s.state)).commit .ok) :=
  succeed_eq _

theorem exec_invSubBytes (s : State) :
    exec .invSubBytes s = .next ((s.setState (invSubBytes s.state)).commit .ok) :=
  succeed_eq _

/-- Settles O32: the commit writes STATE, ERR and PENDING, and the new STATE is the transform's. -/
theorem subBytesCommandsReplaceEveryByte : Obligations.SubBytesCommandsReplaceEveryByte := fun s =>
  ⟨⟨_, exec_subBytes s, cell_subBytes s.state, rfl⟩, ⟨_, exec_invSubBytes s, cell_invSubBytes s.state, rfl⟩⟩

end Sys2Proof.Machine
end

section
/-! ShiftRows, InvShiftRows and their commands (42_shiftrows.md R501 to R506) and the rows O33 and O34. Both transforms move cell
`(r, c)` within row `r`, so the laws are those of addition and subtraction modulo 4, and they commute with whatever acts cell by
cell. -/

namespace Sys2Proof.Machine

/-! ### The transforms (R501, R502) -/

@[simp] theorem cell_shiftRows (s : StateMatrix) (r c : Fin 4) : (shiftRows s).cell r c = s.cell r (c + r) :=
  StateMatrix.cell_ofFn _ r c

@[simp] theorem cell_invShiftRows (s : StateMatrix) (r c : Fin 4) : (invShiftRows s).cell r c = s.cell r (c - r) :=
  StateMatrix.cell_ofFn _ r c

/-! ### The laws (R503) -/

@[simp] theorem invShiftRows_shiftRows (s : StateMatrix) : invShiftRows (shiftRows s) = s :=
  StateMatrix.ext_cell fun r c => by rw [cell_invShiftRows, cell_shiftRows, sub_add_cancel]

@[simp] theorem shiftRows_invShiftRows (s : StateMatrix) : shiftRows (invShiftRows s) = s :=
  StateMatrix.ext_cell fun r c => by rw [cell_shiftRows, cell_invShiftRows, add_sub_cancel_right]

/-- Four turns move row `r` by `4 * r` places, which is 0 modulo 4. -/
theorem shiftRows_four_times (s : StateMatrix) : shiftRows (shiftRows (shiftRows (shiftRows s))) = s :=
  StateMatrix.ext_cell fun r c => by
    have hfour : c + r + r + r + r = c := by omega
    simp only [cell_shiftRows, hfour]

section Cellwise

variable {T : StateMatrix → StateMatrix} {f : Byte → Byte} (hT : ∀ s r c, (T s).cell r c = f (s.cell r c))
include hT

/-- ShiftRows moves cells and T replaces each by its own value alone, so their order is immaterial. -/
theorem shiftRows_comm_of_cellwise (s : StateMatrix) : shiftRows (T s) = T (shiftRows s) :=
  StateMatrix.ext_cell fun r c => by rw [cell_shiftRows, hT, hT, cell_shiftRows]

theorem invShiftRows_comm_of_cellwise (s : StateMatrix) : invShiftRows (T s) = T (invShiftRows s) :=
  StateMatrix.ext_cell fun r c => by rw [cell_invShiftRows, hT, hT, cell_invShiftRows]

end Cellwise

theorem cell_zero_shiftRows (s : StateMatrix) (c : Fin 4) : (shiftRows s).cell 0 c = s.cell 0 c := by
  rw [cell_shiftRows, add_zero]

/-- Settles O34: the laws of ShiftRows alone are those of the column index modulo 4; SubBytes and InvSubBytes act cell by cell. -/
theorem shiftRowsLaws : Obligations.ShiftRowsLaws :=
  ⟨invShiftRows_shiftRows, shiftRows_invShiftRows, shiftRows_four_times,
    shiftRows_comm_of_cellwise cell_subBytes, shiftRows_comm_of_cellwise cell_invSubBytes,
    invShiftRows_comm_of_cellwise cell_subBytes, invShiftRows_comm_of_cellwise cell_invSubBytes, cell_zero_shiftRows⟩

/-! ### The position maps (R504) -/

/-- P of R504: byte i after ShiftRows is byte P[i] before. -/
def shiftRowsSource : Vector (Fin 16) 16 := #v[0, 5, 10, 15, 4, 9, 14, 3, 8, 13, 2, 7, 12, 1, 6, 11]

/-- Q of R504: byte i after InvShiftRows is byte Q[i] before. -/
def invShiftRowsSource : Vector (Fin 16) 16 := #v[0, 13, 10, 7, 4, 1, 14, 11, 8, 5, 2, 15, 12, 9, 6, 3]

/-- The row of byte i in R16's order. -/
def rowAt (i : Fin 16) : Fin 4 := Fin.ofNat 4 i.val

/-- The column of byte i in R16's order. -/
def columnAt (i : Fin 16) : Fin 4 := Fin.ofNat 4 (i.val / 4)

theorem getElem_flatten_fin (s : StateMatrix) (i : Fin 16) : (flatten s)[i] = s.cell (rowAt i) (columnAt i) :=
  getElem_flatten s i.val i.isLt

/-- A matrix each of whose cells is the other's cell at the listed position flattens to the listed bytes. -/
theorem flatten_eq_map {s t : StateMatrix} {source : Vector (Fin 16) 16}
    (h : ∀ i : Fin 16, t.cell (rowAt i) (columnAt i) = s.cell (rowAt source[i]) (columnAt source[i])) :
    flatten t = source.map (fun i => (flatten s)[i]) := by
  apply Vector.ext
  intro i hi
  calc (flatten t)[i] = t.cell (rowAt ⟨i, hi⟩) (columnAt ⟨i, hi⟩) := getElem_flatten_fin t ⟨i, hi⟩
    _ = (flatten s)[source[i]] := by rw [h, getElem_flatten_fin]; rfl
    _ = (source.map (fun i => (flatten s)[i]))[i] := by rw [Vector.getElem_map]

/-- P stays in the row and goes forward by the row's number. -/
theorem position_shiftRowsSource : ∀ i : Fin 16,
    rowAt shiftRowsSource[i] = rowAt i ∧ columnAt shiftRowsSource[i] = columnAt i + rowAt i := by decide

/-- Q stays in the row and goes back by the row's number. -/
theorem position_invShiftRowsSource : ∀ i : Fin 16,
    rowAt invShiftRowsSource[i] = rowAt i ∧ columnAt invShiftRowsSource[i] = columnAt i - rowAt i := by decide

theorem flatten_shiftRows (s : StateMatrix) :
    flatten (shiftRows s) = shiftRowsSource.map (fun i => (flatten s)[i]) :=
  flatten_eq_map fun i => by
    obtain ⟨hrow, hcolumn⟩ := position_shiftRowsSource i
    rw [cell_shiftRows, hrow, hcolumn]

theorem flatten_invShiftRows (s : StateMatrix) :
    flatten (invShiftRows s) = invShiftRowsSource.map (fun i => (flatten s)[i]) :=
  flatten_eq_map fun i => by
    obtain ⟨hrow, hcolumn⟩ := position_invShiftRowsSource i
    rw [cell_invShiftRows, hrow, hcolumn]

/-! ### The commands (R505, R506) -/

theorem exec_shiftRows (s : State) : exec .shiftRows s = .next ((s.setState (shiftRows s.state)).commit .ok) :=
  succeed_eq _

theorem exec_invShiftRows (s : State) :
    exec .invShiftRows s = .next ((s.setState (invShiftRows s.state)).commit .ok) :=
  succeed_eq _

/-- Settles O33: the commit writes STATE, ERR and PENDING, and the new STATE is the transform's, which moves the bytes as P and Q
say. -/
theorem shiftRowsCommandsFollowThePositionMaps : Obligations.ShiftRowsCommandsFollowThePositionMaps := fun s =>
  ⟨⟨_, exec_shiftRows s, flatten_shiftRows s.state, rfl⟩, ⟨_, exec_invShiftRows s, flatten_invShiftRows s.state, rfl⟩⟩

end Sys2Proof.Machine
end

section
/-! MixColumns, InvMixColumns and their commands (43_mixcolumns.md R551 to R560) and the rows O35, O36 and O37. A cell of the
product is the sum of a matrix row times a State column, and multiplying by two matrices in turn is multiplying by their product;
so the laws follow from those of the field and from facts about the two constant matrices. -/

namespace Sys2Proof.Machine

/-! ### A row times a column (R553) -/

/-- The sum over k = 0..3 of `a[k]·x[k]`. -/
def rowTimes (a x : Fin 4 → Byte) : Byte :=
  multiply (a 0) (x 0) ^^^ multiply (a 1) (x 1) ^^^ multiply (a 2) (x 2) ^^^ multiply (a 3) (x 3)

@[simp] theorem cell_matrixTimes (m s : StateMatrix) (i c : Fin 4) :
    (matrixTimes m s).cell i c = rowTimes (m.cell i) (s.cell · c) :=
  StateMatrix.cell_ofFn _ i c

theorem rowTimes_xor (a x y : Fin 4 → Byte) : rowTimes a (fun k => x k ^^^ y k) = rowTimes a x ^^^ rowTimes a y := by
  simp only [rowTimes, multiply_xor]
  ac_rfl

theorem rowTimes_const (a : Fin 4 → Byte) (b : Byte) :
    rowTimes a (fun _ => b) = multiply (a 0 ^^^ a 1 ^^^ a 2 ^^^ a 3) b := by
  simp only [rowTimes, xor_multiply]

/-- A row times (a matrix times a column) is (the row times the matrix) times the column. -/
theorem rowTimes_rowTimes (a : Fin 4 → Byte) (n : Fin 4 → Fin 4 → Byte) (x : Fin 4 → Byte) :
    rowTimes a (fun k => rowTimes (n k) x) = rowTimes (fun j => rowTimes a (n · j)) x := by
  simp only [rowTimes, multiply_xor, xor_multiply, multiply_assoc]
  ac_rfl

/-- The sum may begin at any k. -/
theorem rowTimes_rotate (a x : Fin 4 → Byte) (i : Fin 4) :
    rowTimes a x = rowTimes (fun k => a (i + k)) (fun k => x (i + k)) := by
  have turn (p q r t : Byte) : p ^^^ q ^^^ r ^^^ t = q ^^^ r ^^^ t ^^^ p := by ac_rfl
  match i with
  | 0 => rfl
  | 1 => exact turn _ _ _ _
  | 2 => exact (turn _ _ _ _).trans (turn _ _ _ _)
  | 3 => exact (turn _ _ _ _).symm

/-! ### The matrices undo each other (R556) -/

theorem cell_matrixTimes_row (m n : StateMatrix) (i : Fin 4) :
    (matrixTimes m n).cell i = fun j => rowTimes (m.cell i) (n.cell · j) :=
  funext (cell_matrixTimes m n i)

theorem matrixTimes_matrixTimes (m n s : StateMatrix) :
    matrixTimes m (matrixTimes n s) = matrixTimes (matrixTimes m n) s :=
  StateMatrix.ext_cell fun i c => by
    simp only [cell_matrixTimes_row, rowTimes_rowTimes]

theorem unitRow_rowTimes (i : Fin 4) (x : Fin 4 → Byte) : rowTimes (fun k => if i = k then 1 else 0) x = x i := by
  have hterm (k : Fin 4) : multiply (if i = k then 1 else 0) (x k) = if i = k then x k else 0 := by
    rw [apply_ite (multiply · (x k)), one_multiply, zero_multiply]
  simp only [rowTimes, hterm]
  fin_cases i <;> simp

def identityMatrix : StateMatrix := StateMatrix.ofFn fun r c => if r = c then 1 else 0

theorem identityMatrix_matrixTimes (s : StateMatrix) : matrixTimes identityMatrix s = s :=
  StateMatrix.ext_cell fun i c => by
    have hrow : identityMatrix.cell i = fun k => if i = k then 1 else 0 := funext (StateMatrix.cell_ofFn _ i)
    rw [cell_matrixTimes, hrow, unitRow_rowTimes]

theorem invMixMatrix_times_mixMatrix : matrixTimes invMixMatrix mixMatrix = identityMatrix := by decide

theorem mixMatrix_times_invMixMatrix : matrixTimes mixMatrix invMixMatrix = identityMatrix := by decide

@[simp] theorem invMixColumns_mixColumns (s : StateMatrix) : invMixColumns (mixColumns s) = s := by
  rw [invMixColumns, mixColumns, matrixTimes_matrixTimes, invMixMatrix_times_mixMatrix, identityMatrix_matrixTimes]

@[simp] theorem mixColumns_invMixColumns (s : StateMatrix) : mixColumns (invMixColumns s) = s := by
  rw [invMixColumns, mixColumns, matrixTimes_matrixTimes, mixMatrix_times_invMixMatrix, identityMatrix_matrixTimes]

/-! ### Linearity and constant columns (R556) -/

theorem cell_matrixTimes_xor (m s t : StateMatrix) (r c : Fin 4) :
    (matrixTimes m (StateMatrix.ofFn fun r c => s.cell r c ^^^ t.cell r c)).cell r c =
      (matrixTimes m s).cell r c ^^^ (matrixTimes m t).cell r c := by
  simp only [cell_matrixTimes, StateMatrix.cell_ofFn, rowTimes_xor]

/-- Where a row of the matrix sums to 1, it leaves a column of four equal bytes as it is. -/
theorem cell_matrixTimes_of_const {m s : StateMatrix} {r c : Fin 4} {b : Byte}
    (hrow : m.cell r 0 ^^^ m.cell r 1 ^^^ m.cell r 2 ^^^ m.cell r 3 = 1) (hcolumn : ∀ k, s.cell k c = b) :
    (matrixTimes m s).cell r c = b := by
  simp only [cell_matrixTimes, hcolumn, rowTimes_const, hrow, one_multiply]

theorem mixMatrix_row_sum : ∀ r : Fin 4,
    mixMatrix.cell r 0 ^^^ mixMatrix.cell r 1 ^^^ mixMatrix.cell r 2 ^^^ mixMatrix.cell r 3 = 1 := by decide

theorem invMixMatrix_row_sum : ∀ r : Fin 4,
    invMixMatrix.cell r 0 ^^^ invMixMatrix.cell r 1 ^^^ invMixMatrix.cell r 2 ^^^ invMixMatrix.cell r 3 = 1 := by decide

/-- Settles O36: the two matrices are inverse, multiplication by either is linear, and every row of either sums to 1. -/
theorem mixColumnsLaws : Obligations.MixColumnsLaws :=
  ⟨invMixColumns_mixColumns, mixColumns_invMixColumns,
    fun s t r c => ⟨cell_matrixTimes_xor mixMatrix s t r c, cell_matrixTimes_xor invMixMatrix s t r c⟩,
    fun _ _ _ hcolumn r =>
      ⟨cell_matrixTimes_of_const (mixMatrix_row_sum r) hcolumn, cell_matrixTimes_of_const (invMixMatrix_row_sum r) hcolumn⟩⟩

/-! ### The coefficients as sums of x_time powers (R405, R555) -/

theorem fieldLinear_xTimeIter (n : Nat) : FieldLinear (xTimeIter n) := by
  induction n with
  | zero => exact ⟨fun _ _ => rfl, fun _ => rfl⟩
  | succ n ih => exact fieldLinear_xTime.comp ih

/-- `x_time^n(1)` is the power `x^n`, and multiplying by it is `x_time^n`. -/
theorem xTimeIter_one_multiply (n : Nat) (x : Byte) : multiply (xTimeIter n 1) x = xTimeIter n x :=
  ((fieldLinear_xTimeIter n).eq_multiply x).symm

theorem three_multiply (x : Byte) : multiply 0x03 x = mul03 x := by rw [multiply_comm, multiply_three, mul03]

theorem nine_multiply (x : Byte) : multiply 0x09 x = xTimeIter 3 x ^^^ x := by
  have h : (0x09 : Byte) = xTimeIter 3 1 ^^^ 1 := by decide
  rw [h, xor_multiply, xTimeIter_one_multiply, one_multiply]

theorem eleven_multiply (x : Byte) : multiply 0x0B x = xTimeIter 3 x ^^^ xTime x ^^^ x := by
  have h : (0x0B : Byte) = xTimeIter 3 1 ^^^ 0x02 ^^^ 1 := by decide
  rw [h, xor_multiply, xor_multiply, xTimeIter_one_multiply, two_multiply, one_multiply]

theorem thirteen_multiply (x : Byte) : multiply 0x0D x = xTimeIter 3 x ^^^ xTimeIter 2 x ^^^ x := by
  have h : (0x0D : Byte) = xTimeIter 3 1 ^^^ xTimeIter 2 1 ^^^ 1 := by decide
  rw [h, xor_multiply, xor_multiply, xTimeIter_one_multiply, xTimeIter_one_multiply, one_multiply]

theorem fourteen_multiply (x : Byte) : multiply 0x0E x = xTimeIter 3 x ^^^ xTimeIter 2 x ^^^ xTime x := by
  have h : (0x0E : Byte) = xTimeIter 3 1 ^^^ xTimeIter 2 1 ^^^ 0x02 := by decide
  rw [h, xor_multiply, xor_multiply, xTimeIter_one_multiply, xTimeIter_one_multiply, two_multiply]

/-! ### The transforms byte by byte (R553, R555) -/

/-- Row i of M is row 0 rotated right by i (R551). -/
theorem mixMatrix_cell_add : ∀ i k : Fin 4, mixMatrix.cell i (i + k) = mixMatrix.cell 0 k := by decide

/-- Row i of IM is row 0 rotated right by i (R552). -/
theorem invMixMatrix_cell_add : ∀ i k : Fin 4, invMixMatrix.cell i (i + k) = invMixMatrix.cell 0 k := by decide

/-- Multiplying by a matrix whose rows are row 0 rotated treats every row alike: begin the sum at the diagonal. -/
theorem cell_matrixTimes_of_rotated {m : StateMatrix} (hm : ∀ i k : Fin 4, m.cell i (i + k) = m.cell 0 k)
    (s : StateMatrix) (i c : Fin 4) :
    (matrixTimes m s).cell i c = rowTimes (m.cell 0) (fun k => s.cell (i + k) c) := by
  rw [cell_matrixTimes, rowTimes_rotate _ _ i]
  simp only [hm]

theorem cell_mixColumns (s : StateMatrix) (i c : Fin 4) :
    (mixColumns s).cell i c =
      mul02 (s.cell i c) ^^^ mul03 (s.cell (i + 1) c) ^^^ s.cell (i + 2) c ^^^ s.cell (i + 3) c :=
  calc (mixColumns s).cell i c
    _ = rowTimes (mixMatrix.cell 0) (fun k => s.cell (i + k) c) := cell_matrixTimes_of_rotated mixMatrix_cell_add s i c
    _ = multiply 0x02 (s.cell (i + 0) c) ^^^ multiply 0x03 (s.cell (i + 1) c) ^^^ multiply 0x01 (s.cell (i + 2) c) ^^^
          multiply 0x01 (s.cell (i + 3) c) := rfl
    _ = _ := by rw [add_zero, two_multiply, three_multiply, one_multiply, one_multiply, mul02]

theorem cell_invMixColumns (s : StateMatrix) (i c : Fin 4) :
    (invMixColumns s).cell i c =
      (xTimeIter 3 (s.cell i c) ^^^ xTimeIter 2 (s.cell i c) ^^^ xTime (s.cell i c)) ^^^
        (xTimeIter 3 (s.cell (i + 1) c) ^^^ xTime (s.cell (i + 1) c) ^^^ s.cell (i + 1) c) ^^^
        (xTimeIter 3 (s.cell (i + 2) c) ^^^ xTimeIter 2 (s.cell (i + 2) c) ^^^ s.cell (i + 2) c) ^^^
        (xTimeIter 3 (s.cell (i + 3) c) ^^^ s.cell (i + 3) c) :=
  calc (invMixColumns s).cell i c
    _ = rowTimes (invMixMatrix.cell 0) (fun k => s.cell (i + k) c) :=
      cell_matrixTimes_of_rotated invMixMatrix_cell_add s i c
    _ = multiply 0x0E (s.cell (i + 0) c) ^^^ multiply 0x0B (s.cell (i + 1) c) ^^^ multiply 0x0D (s.cell (i + 2) c) ^^^
          multiply 0x09 (s.cell (i + 3) c) := rfl
    _ = _ := by rw [add_zero, fourteen_multiply, eleven_multiply, thirteen_multiply, nine_multiply]

/-- Settles O35: the four rows of the byte-by-byte form, each sum put in the order of R554. -/
theorem mixColumnsInTheBasisForm : Obligations.MixColumnsInTheBasisForm := fun s c =>
  ⟨cell_mixColumns s 0 c,
    calc (mixColumns s).cell 1 c
      _ = mul02 (s.cell 1 c) ^^^ mul03 (s.cell 2 c) ^^^ s.cell 3 c ^^^ s.cell 0 c := cell_mixColumns s 1 c
      _ = _ := by ac_rfl,
    calc (mixColumns s).cell 2 c
      _ = mul02 (s.cell 2 c) ^^^ mul03 (s.cell 3 c) ^^^ s.cell 0 c ^^^ s.cell 1 c := cell_mixColumns s 2 c
      _ = _ := by ac_rfl,
    calc (mixColumns s).cell 3 c
      _ = mul02 (s.cell 3 c) ^^^ mul03 (s.cell 0 c) ^^^ s.cell 1 c ^^^ s.cell 2 c := cell_mixColumns s 3 c
      _ = _ := by ac_rfl⟩

/-! ### The commands (R559, R560) -/

theorem exec_mixColumns (s : State) : exec .mixColumns s = .next ((s.setState (mixColumns s.state)).commit .ok) :=
  succeed_eq _

theorem exec_invMixColumns (s : State) :
    exec .invMixColumns s = .next ((s.setState (invMixColumns s.state)).commit .ok) :=
  succeed_eq _

/-- Settles O37: the commit writes STATE, ERR and PENDING, and the new STATE is the transform's, byte by byte. -/
theorem mixColumnsCommandsMultiplyEveryColumn : Obligations.MixColumnsCommandsMultiplyEveryColumn := fun s =>
  ⟨⟨_, exec_mixColumns s, cell_mixColumns s.state, rfl⟩, ⟨_, exec_invMixColumns s, cell_invMixColumns s.state, rfl⟩⟩

end Sys2Proof.Machine
end

section
/-! AddRoundKey and its command (44_addroundkey.md R601 to R604) and the rows O38 and O39. The transform is the xor of each column
word with its word of the slice, so its laws are those of xor, and the command's checks let through only slices that lie in W. -/

namespace Sys2Proof.Machine

/-! ### The transform (R601, R602) -/

@[simp] theorem cell_addRoundKey (s : StateMatrix) (w : Vector Word 60) (rnd : Nat) (r c : Fin 4) :
    (addRoundKey s w rnd).cell r c = s.cell r c ^^^ byteOf (scheduleWord w (4 * rnd + c.val)) r :=
  StateMatrix.cell_ofFn _ r c

theorem byteOf_xor (v w : Word) (r : Fin 4) : byteOf (v ^^^ w) r = byteOf v r ^^^ byteOf w r := BitVec.extractLsb'_xor

theorem byteOf_zero (r : Fin 4) : byteOf 0 r = 0#8 := BitVec.extractLsb'_zero

theorem colword_addRoundKey (s : StateMatrix) (w : Vector Word 60) (rnd : Nat) (c : Fin 4) :
    colword (addRoundKey s w rnd) c = colword s c ^^^ scheduleWord w (4 * rnd + c.val) :=
  word_ext fun r => by rw [byteOf_xor, byteOf_colword, byteOf_colword, cell_addRoundKey]

@[simp] theorem addRoundKey_addRoundKey (s : StateMatrix) (w : Vector Word 60) (rnd : Nat) :
    addRoundKey (addRoundKey s w rnd) w rnd = s :=
  StateMatrix.ext_cell fun r c => by
    rw [cell_addRoundKey, cell_addRoundKey, BitVec.xor_assoc, BitVec.xor_self, BitVec.xor_zero]

theorem addRoundKey_of_slice_zero (s : StateMatrix) (w : Vector Word 60) (rnd : Nat)
    (hzero : ∀ c : Fin 4, scheduleWord w (4 * rnd + c.val) = 0) : addRoundKey s w rnd = s :=
  StateMatrix.ext_cell fun r c => by rw [cell_addRoundKey, hzero, byteOf_zero, BitVec.xor_zero]

/-- Settles O38: the bytes are the definition's, and xor with the same word twice, or with 0, changes nothing. -/
theorem addRoundKeyLaws : Obligations.AddRoundKeyLaws :=
  ⟨cell_addRoundKey, colword_addRoundKey, addRoundKey_addRoundKey, addRoundKey_of_slice_zero⟩

/-! ### The command's checks (R604) -/

theorem scheduleError_of_no_schedule {s : State} (hksv : s.ksv = false) : s.scheduleError = some .noKeySchedule := by
  rw [State.scheduleError, hksv]; rfl

theorem roundError_of_nr_lt {s : State} {rnd : Nat} (hrnd : s.kskt.nr < rnd) : s.roundError rnd = some .invalidRound :=
  if_neg (Nat.not_le.mpr hrnd)

/-! ### The command (R604) -/

theorem exec_addRoundKey (rnd : Nat) (s : State) :
    exec (.addRoundKey rnd) s =
      checked [s.scheduleError, s.roundError rnd] s (s.setState (addRoundKey s.state s.w rnd)) := rfl

theorem exec_addRoundKey_of_no_schedule (rnd : Nat) {s : State} (hksv : s.ksv = false) :
    exec (.addRoundKey rnd) s = .next (s.commit .noKeySchedule) := by
  rw [exec_addRoundKey, scheduleError_of_no_schedule hksv]
  exact checked_of_some rfl _ _

theorem exec_addRoundKey_of_nr_lt {rnd : Nat} {s : State} (hksv : s.ksv = true) (hrnd : s.kskt.nr < rnd) :
    exec (.addRoundKey rnd) s = .next (s.commit .invalidRound) := by
  rw [exec_addRoundKey, scheduleError_eq_none_iff.mpr hksv, roundError_of_nr_lt hrnd]
  exact checked_of_some rfl _ _

theorem exec_addRoundKey_of_le_nr {rnd : Nat} {s : State} (hksv : s.ksv = true) (hrnd : rnd ≤ s.kskt.nr) :
    exec (.addRoundKey rnd) s = .next ((s.setState (addRoundKey s.state s.w rnd)).commit .ok) := by
  rw [exec_addRoundKey, scheduleError_eq_none_iff.mpr hksv, roundError_eq_none_iff.mpr hrnd]
  exact checked_of_none rfl _ _

/-- W holds the slice of every round up to Nr, whatever the key type: Nr is at most 14 (R10), and `4 * 14 + 3 = 59`. -/
theorem slice_lt_of_le_nr {kt : KeyType} {rnd : Nat} (hrnd : rnd ≤ kt.nr) (c : Fin 4) : 4 * rnd + c.val < 60 := by
  have hnr : kt.nr ≤ 14 := by cases kt <;> decide
  omega

theorem scheduleWord_eq_getElem (w : Vector Word 60) {i : Nat} (hi : i < 60) : scheduleWord w i = w[i] := by
  rw [scheduleWord, Vector.getElem?_eq_getElem hi, Option.getD_some]

/-- Settles O39: the first check that fails is raised; with none, the commit writes STATE, ERR and PENDING, and the words xored into
STATE lie in W. -/
theorem addRoundKeyXorsTheSlice : Obligations.AddRoundKeyXorsTheSlice := fun rnd s =>
  ⟨exec_addRoundKey_of_no_schedule rnd, exec_addRoundKey_of_nr_lt, fun hksv hrnd =>
    ⟨_, exec_addRoundKey_of_le_nr hksv hrnd,
      fun c =>
        have hi := slice_lt_of_le_nr hrnd c
        ⟨hi, scheduleWord_eq_getElem s.w hi ▸ colword_addRoundKey s.state s.w rnd c⟩,
      rfl⟩⟩

end Sys2Proof.Machine
end

section
/-! The key schedule and KEY_EXPAND (45_key_schedule.md R651 to R662) and the rows O40 to O43. The second loop of R655 writes word i
once, from words below i that no later turn touches, so the recurrence read off at its turn still holds of the finished W. -/

namespace Sys2Proof.Machine

/-! ### RotWord and SubWord (R651, R652) -/

theorem rotWord_eq_rotateLeft (w : Word) : rotWord w = w.rotateLeft 8 := rfl

theorem rotWord_wordOf (a0 a1 a2 a3 : Byte) : rotWord (wordOf a0 a1 a2 a3) = wordOf a1 a2 a3 a0 := by
  apply BitVec.eq_of_getLsbD_eq
  intro i hi
  simp only [rotWord, wordOf, BitVec.getLsbD_or, BitVec.getLsbD_shiftLeft, BitVec.getLsbD_ushiftRight,
    BitVec.getLsbD_append]
  interval_cases i <;> simp

theorem subWord_wordOf (a0 a1 a2 a3 : Byte) :
    subWord (wordOf a0 a1 a2 a3) = wordOf (sbox a0) (sbox a1) (sbox a2) (sbox a3) := by
  obtain ⟨h0, h1, h2, h3⟩ := byteOf_wordOf a0 a1 a2 a3
  rw [subWord, h0, h1, h2, h3]

/-- Settles O40: the model's shifts are the rotation, and a word is given by its four bytes. -/
theorem rotWordAndSubWordOnBytes : Obligations.RotWordAndSubWordOnBytes :=
  ⟨rotWord_eq_rotateLeft, rotWord_wordOf, subWord_wordOf⟩

/-! ### The first loop of R655 -/

theorem nk_pos (kt : KeyType) : 0 < kt.nk := by cases kt <;> decide

/-- The second loop starts within the schedule (R10). -/
theorem nk_le_schedule_length (kt : KeyType) : kt.nk ≤ 4 * (kt.nr + 1) := by cases kt <;> decide

/-- The schedule fits in W (R10, R121). -/
theorem schedule_length_le (kt : KeyType) : 4 * (kt.nr + 1) ≤ 60 := by cases kt <;> decide

theorem scheduleWord_keyWords_of_lt {kt : KeyType} (key : Vector Byte 32) (i : Fin 8) (hi : i.val < kt.nk) :
    scheduleWord (keyWords kt key) i.val = keyWord key i := by
  rw [scheduleWord_eq_getElem _ (by omega), keyWords, Vector.getElem_ofFn, dif_pos hi]

theorem scheduleWord_keyWords_of_le {kt : KeyType} (key : Vector Byte 32) {i : Nat} (hi : kt.nk ≤ i) (h60 : i < 60) :
    scheduleWord (keyWords kt key) i = 0 := by
  rw [scheduleWord_eq_getElem _ h60, keyWords, Vector.getElem_ofFn, dif_neg (Nat.not_lt.mpr hi)]

/-! ### One turn of the second loop -/

theorem scheduleWord_expandWord_same (kt : KeyType) (w : Vector Word 60) {i : Nat} (hi : i < 60) :
    scheduleWord (expandWord kt w i) i =
      scheduleWord w (i - kt.nk) ^^^ expansionTemp kt i (scheduleWord w (i - 1)) := by
  rw [scheduleWord_eq_getElem _ hi, expandWord, Vector.getElem_setIfInBounds_self]

theorem scheduleWord_expandWord_ne (kt : KeyType) (w : Vector Word 60) {i j : Nat} (hne : i ≠ j) :
    scheduleWord (expandWord kt w i) j = scheduleWord w j := by
  rw [scheduleWord, expandWord, Vector.getElem?_setIfInBounds_ne hne, scheduleWord]

/-! ### The second loop of R655 -/

/-- The turns `a` to `a + n - 1` of the second loop of R655. -/
def expandRange (kt : KeyType) (w : Vector Word 60) (a n : Nat) : Vector Word 60 :=
  (List.range' a n).foldl (expandWord kt) w

theorem keyExpansion_eq_expandRange (kt : KeyType) (key : Vector Byte 32) :
    keyExpansion kt key = expandRange kt (keyWords kt key) kt.nk (4 * (kt.nr + 1) - kt.nk) := rfl

theorem expandRange_succ (kt : KeyType) (w : Vector Word 60) (a n : Nat) :
    expandRange kt w a (n + 1) = expandWord kt (expandRange kt w a n) (a + n) := by
  simp only [expandRange, List.range'_1_concat, List.foldl_append, List.foldl_cons, List.foldl_nil]

/-- The turns leave every word outside their range as it was. -/
theorem scheduleWord_expandRange_of_outside (kt : KeyType) (w : Vector Word 60) {a n j : Nat} (hj : j < a ∨ a + n ≤ j) :
    scheduleWord (expandRange kt w a n) j = scheduleWord w j := by
  induction n with
  | zero => rfl
  | succ n ih => rw [expandRange_succ, scheduleWord_expandWord_ne kt _ (by omega), ih (by omega)]

/-- The recurrence of R655 holds of the words left at the end: the turn that writes word i reads words below it, and every later
turn writes above it. -/
theorem scheduleWord_expandRange_recurrence (kt : KeyType) (w : Vector Word 60) {a n i : Nat} (hpos : 0 < i)
    (ha : a ≤ i) (hi : i < a + n) (h60 : i < 60) :
    scheduleWord (expandRange kt w a n) i =
      scheduleWord (expandRange kt w a n) (i - kt.nk) ^^^
        expansionTemp kt i (scheduleWord (expandRange kt w a n) (i - 1)) := by
  have hnk := nk_pos kt
  induction n with
  | zero => omega
  | succ n ih =>
    rw [expandRange_succ, scheduleWord_expandWord_ne kt _ (show a + n ≠ i - kt.nk by omega),
      scheduleWord_expandWord_ne kt _ (show a + n ≠ i - 1 by omega)]
    obtain hlt | rfl : i < a + n ∨ i = a + n := by omega
    · rw [scheduleWord_expandWord_ne kt _ (by omega), ih hlt]
    · exact scheduleWord_expandWord_same kt _ h60

/-! ### KeyExpansion (R655, R661) -/

theorem scheduleWord_keyExpansion_of_lt {kt : KeyType} (key : Vector Byte 32) (i : Fin 8) (hi : i.val < kt.nk) :
    scheduleWord (keyExpansion kt key) i.val = keyWord key i := by
  rw [keyExpansion_eq_expandRange, scheduleWord_expandRange_of_outside kt _ (.inl hi), scheduleWord_keyWords_of_lt key i hi]

theorem scheduleWord_keyExpansion_recurrence {kt : KeyType} (key : Vector Byte 32) {i : Nat} (hnk : kt.nk ≤ i)
    (hi : i < 4 * (kt.nr + 1)) :
    scheduleWord (keyExpansion kt key) i =
      scheduleWord (keyExpansion kt key) (i - kt.nk) ^^^
        expansionTemp kt i (scheduleWord (keyExpansion kt key) (i - 1)) := by
  have hpos := nk_pos kt
  have hlength := schedule_length_le kt
  exact scheduleWord_expandRange_recurrence kt _ (by omega) hnk (by omega) (by omega)

theorem scheduleWord_keyExpansion_of_length_le {kt : KeyType} (key : Vector Byte 32) {i : Nat}
    (hi : 4 * (kt.nr + 1) ≤ i) (h60 : i < 60) : scheduleWord (keyExpansion kt key) i = 0 := by
  have hnk := nk_le_schedule_length kt
  rw [keyExpansion_eq_expandRange, scheduleWord_expandRange_of_outside kt _ (.inr (by omega)),
    scheduleWord_keyWords_of_le key (by omega) h60]

/-- Settles O41: the first loop's words are kept, each later word keeps the value its turn gave it, and no turn reaches beyond the
schedule's length. -/
theorem expansionFollowsTheRecurrence : Obligations.ExpansionFollowsTheRecurrence := fun _ key =>
  ⟨scheduleWord_keyExpansion_of_lt key, fun _ => scheduleWord_keyExpansion_recurrence key,
    fun _ => scheduleWord_keyExpansion_of_length_le key⟩

/-! ### The key registers (R115) -/

theorem getElem_keyBytes (s : State) (j : Fin 8) (r : Fin 4) :
    s.keyBytes[4 * j.val + r.val] = byteOf s.key[j] r := by
  have hj : (4 * j.val + r.val) / 4 = j.val := by omega
  have hr : Fin.ofNat 4 (4 * j.val + r.val) = r := Fin.ext (by simp only [Fin.val_ofNat]; omega)
  simp only [State.keyBytes, Vector.getElem_ofFn, hj, hr, Fin.getElem_fin]

/-- Packing the key bytes gives the key registers back. -/
@[simp] theorem keyWord_keyBytes (s : State) (j : Fin 8) : keyWord s.keyBytes j = s.key[j] :=
  calc keyWord s.keyBytes j
      = wordOf (byteOf s.key[j] 0) (byteOf s.key[j] 1) (byteOf s.key[j] 2) (byteOf s.key[j] 3) := by
        rw [← getElem_keyBytes, ← getElem_keyBytes, ← getElem_keyBytes, ← getElem_keyBytes]; rfl
    _ = s.key[j] := wordOf_byteOf _

/-- The first words of the expanded schedule are the key registers. -/
theorem getElem_keyExpansion_keyBytes {kt : KeyType} (s : State) (j : Fin 8) (hj : j.val < kt.nk) :
    (keyExpansion kt s.keyBytes)[j.val] = s.key[j] := by
  rw [← scheduleWord_eq_getElem, scheduleWord_keyExpansion_of_lt _ j hj, keyWord_keyBytes]

/-- The expansion reads the first Nk words of the key only (R660). -/
theorem keyExpansion_congr {kt : KeyType} {key key' : Vector Byte 32}
    (h : ∀ j : Fin 8, j.val < kt.nk → keyWord key j = keyWord key' j) : keyExpansion kt key = keyExpansion kt key' := by
  have hwords : keyWords kt key = keyWords kt key' :=
    congrArg Vector.ofFn (funext fun _ => dite_congr rfl (fun hi => h _ hi) fun _ => rfl)
  rw [keyExpansion, keyExpansion, hwords]

/-! ### The command (R660, R662) -/

theorem keyLengthError_of_ne {s : State} {kt : KeyType} (hlen : s.keylen.toNat ≠ 4 * kt.nk) :
    s.keyLengthError kt = some .invalidKeyLength := if_neg hlen

theorem exec_keyExpand (kt : KeyType) (s : State) :
    exec (.keyExpand kt) s = checked [s.keyLengthError kt] s (s.setSchedule kt (keyExpansion kt s.keyBytes)) := rfl

theorem exec_keyExpand_of_length_ne {kt : KeyType} {s : State} (hlen : s.keylen.toNat ≠ 4 * kt.nk) :
    exec (.keyExpand kt) s = .next (s.commit .invalidKeyLength) := by
  rw [exec_keyExpand, keyLengthError_of_ne hlen]
  exact checked_of_some rfl _ _

theorem exec_keyExpand_of_length_eq {kt : KeyType} {s : State} (hlen : s.keylen.toNat = 4 * kt.nk) :
    exec (.keyExpand kt) s = .next ((s.setSchedule kt (keyExpansion kt s.keyBytes)).commit .ok) := by
  rw [exec_keyExpand, keyLengthError_eq_none_iff.mpr hlen]
  exact checked_of_none rfl _ _

/-- Settles O42: the one check decides; when it passes, the commit writes W, KSV, KSKT, ERR and PENDING, and the first words of W are
the key registers. -/
theorem keyExpandWritesTheSchedule : Obligations.KeyExpandWritesTheSchedule := fun _ s =>
  ⟨exec_keyExpand_of_length_ne, fun hlen =>
    ⟨_, exec_keyExpand_of_length_eq hlen, rfl, getElem_keyExpansion_keyBytes s, rfl⟩⟩

/-- Settles O43: both states fail with the same error, or both expand keys that agree on the words the expansion reads. -/
theorem keyExpandIgnoresTheKeyTail : Obligations.KeyExpandIgnoresTheKeyTail := by
  intro kt s s' t t' hkeylen hkey ht ht'
  by_cases hlen : s.keylen.toNat = 4 * kt.nk
  · have hw : keyExpansion kt s.keyBytes = keyExpansion kt s'.keyBytes :=
      keyExpansion_congr fun j hj => by rw [keyWord_keyBytes, keyWord_keyBytes, hkey j hj]
    cases (exec_keyExpand_of_length_eq hlen).symm.trans ht
    cases (exec_keyExpand_of_length_eq (hkeylen ▸ hlen)).symm.trans ht'
    simp only [State.commit_err, State.commit_w, State.commit_ksv, State.commit_kskt, State.setSchedule_w,
      State.setSchedule_ksv, State.setSchedule_kskt, hw, and_self, implies_true]
  · cases (exec_keyExpand_of_length_ne hlen).symm.trans ht
    cases (exec_keyExpand_of_length_ne (hkeylen ▸ hlen)).symm.trans ht'
    exact ⟨rfl, fun herr => nomatch herr⟩

end Sys2Proof.Machine
end

section
/-! The round sequences and ENCRYPT and DECRYPT (46_cipher.md R701 to R710) and the rows O44 to O48. The inverse rounds undo the
rounds one by one from the inside out, once the two half rounds at the ends are cut off; the two commands are one, but for the
block they leave. -/

namespace Sys2Proof.Machine

/-! ### The round sequences undo each other (R704) -/

/-- Turns that undo each other beside `φ`, run in the opposite order, undo a whole sequence of turns. -/
theorem foldl_reverse_of_undoes {α β : Type} {f g : α → β → α} {φ : α → α} (h : ∀ a b, g (φ (f a b)) b = φ a)
    (l : List β) (a : α) : l.reverse.foldl g (φ (l.foldl f a)) = φ a := by
  induction l generalizing a with
  | nil => rfl
  | cons b l ih =>
    rw [List.reverse_cons, List.foldl_append, List.foldl_cons (f := f), ih]
    exact h a b

/-- The half round SubBytes, ShiftRows, at which an inverse round takes up the state, comes before the round's key. -/
theorem inverseCipherRound_halfRound_cipherRound (w : Vector Word 60) (s : StateMatrix) (round : Nat) :
    inverseCipherRound w (shiftRows (subBytes (cipherRound w s round))) round = shiftRows (subBytes s) := by
  simp only [inverseCipherRound, cipherRound, invShiftRows_shiftRows, invSubBytes_subBytes, addRoundKey_addRoundKey,
    invMixColumns_mixColumns]

/-- The same the other way round: InvShiftRows, InvSubBytes come before the inverse round's key. -/
theorem cipherRound_halfRound_inverseCipherRound (w : Vector Word 60) (s : StateMatrix) (round : Nat) :
    cipherRound w (invSubBytes (invShiftRows (inverseCipherRound w s round))) round = invSubBytes (invShiftRows s) := by
  simp only [inverseCipherRound, cipherRound, shiftRows_invShiftRows, subBytes_invSubBytes, addRoundKey_addRoundKey,
    mixColumns_invMixColumns]

/-- The State after rounds 1 to Nr-1 of R701. -/
def cipherRounds (w : Vector Word 60) (nr : Nat) (s : StateMatrix) : StateMatrix :=
  (List.range' 1 (nr - 1)).foldl (cipherRound w) s

/-- The State after rounds Nr-1 down to 1 of R703. -/
def inverseCipherRounds (w : Vector Word 60) (nr : Nat) (s : StateMatrix) : StateMatrix :=
  (List.range' 1 (nr - 1)).reverse.foldl (inverseCipherRound w) s

theorem inverseCipherRounds_cipherRounds (w : Vector Word 60) (nr : Nat) (s : StateMatrix) :
    inverseCipherRounds w nr (shiftRows (subBytes (cipherRounds w nr s))) = shiftRows (subBytes s) :=
  foldl_reverse_of_undoes (φ := fun s => shiftRows (subBytes s)) (inverseCipherRound_halfRound_cipherRound w) _ s

theorem cipherRounds_inverseCipherRounds (w : Vector Word 60) (nr : Nat) (s : StateMatrix) :
    cipherRounds w nr (invSubBytes (invShiftRows (inverseCipherRounds w nr s))) = invSubBytes (invShiftRows s) := by
  have h := foldl_reverse_of_undoes (φ := fun s => invSubBytes (invShiftRows s))
    (cipherRound_halfRound_inverseCipherRound w) (List.range' 1 (nr - 1)).reverse s
  rwa [List.reverse_reverse] at h

theorem pack_cipher (p : Vector Byte 16) (w : Vector Word 60) (nr : Nat) :
    pack (cipher p w nr) = cipherFinal w (cipherRounds w nr (addRoundKey (pack p) w 0)) nr := pack_flatten _

theorem pack_inverseCipher (p : Vector Byte 16) (w : Vector Word 60) (nr : Nat) :
    pack (inverseCipher p w nr) = inverseCipherFinal w (inverseCipherRounds w nr (addRoundKey (pack p) w nr)) :=
  pack_flatten _

theorem pack_injective : Function.Injective pack := Function.LeftInverse.injective flatten_pack

theorem inverseCipher_cipher (p : Vector Byte 16) (w : Vector Word 60) (nr : Nat) :
    inverseCipher (cipher p w nr) w nr = p := by
  apply pack_injective
  rw [pack_inverseCipher, pack_cipher, cipherFinal, addRoundKey_addRoundKey, inverseCipherRounds_cipherRounds,
    inverseCipherFinal, invShiftRows_shiftRows, invSubBytes_subBytes, addRoundKey_addRoundKey]

theorem cipher_inverseCipher (p : Vector Byte 16) (w : Vector Word 60) (nr : Nat) :
    cipher (inverseCipher p w nr) w nr = p := by
  apply pack_injective
  rw [pack_cipher, pack_inverseCipher, inverseCipherFinal, addRoundKey_addRoundKey, cipherRounds_inverseCipherRounds,
    cipherFinal, subBytes_invSubBytes, shiftRows_invShiftRows, addRoundKey_addRoundKey]

/-- Settles O44: the first key addition meets the last, then each round its own inverse. -/
theorem cipherRoundTrip : Obligations.CipherRoundTrip :=
  fun p w nr => ⟨inverseCipher_cipher p w nr, cipher_inverseCipher p w nr⟩

/-! ### Blocks in DIN and DOUT (R116, R117) -/

theorem byteOf_blockWords (out : Vector Byte 16) (j r : Fin 4) :
    byteOf (blockWords out)[j] r = out[4 * j.val + r.val] := by
  obtain ⟨h0, h1, h2, h3⟩ :=
    byteOf_wordOf out[4 * j.val] out[4 * j.val + 1] out[4 * j.val + 2] out[4 * j.val + 3]
  rw [Fin.getElem_fin, blockWords, Vector.getElem_ofFn]
  match r with
  | 0 => exact h0
  | 1 => exact h1
  | 2 => exact h2
  | 3 => exact h3

theorem getElem_dinBytes (s : State) (j r : Fin 4) : s.dinBytes[4 * j.val + r.val] = byteOf s.din[j] r := by
  have hj : (4 * j.val + r.val) / 4 = j.val := by omega
  have hr : Fin.ofNat 4 (4 * j.val + r.val) = r := Fin.ext (by simp only [Fin.val_ofNat]; omega)
  simp only [State.dinBytes, Vector.getElem_ofFn, hj, hr, Fin.getElem_fin]

/-- Packing the input bytes gives the input registers back. -/
theorem blockWords_dinBytes (s : State) : blockWords s.dinBytes = s.din := by
  apply Vector.ext
  intro j hj
  apply word_ext
  intro r
  exact (byteOf_blockWords s.dinBytes ⟨j, hj⟩ r).trans (getElem_dinBytes s ⟨j, hj⟩ r)

/-- An output block copied to the input registers is the next input block. -/
theorem dinBytes_of_din_eq {s : State} {out : Vector Byte 16} (h : s.din = blockWords out) : s.dinBytes = out := by
  apply Vector.ext
  intro i hi
  have hbyte := (getElem_dinBytes s ⟨i / 4, by omega⟩ ⟨i % 4, by omega⟩).trans
    (h ▸ byteOf_blockWords out ⟨i / 4, by omega⟩ ⟨i % 4, by omega⟩)
  simpa only [Nat.div_add_mod] using hbyte

theorem dinBytes_congr {s s' : State} (h : s.din = s'.din) : s.dinBytes = s'.dinBytes :=
  dinBytes_of_din_eq (h.trans (blockWords_dinBytes s').symm)

/-! ### The two block commands (R709, R710) -/

/-- A command that makes the checks of ENCRYPT and DECRYPT and leaves the block `out` in DOUT. -/
def blockCommand (out : Vector Byte 16) (s : State) : Host.Outcome State Fault Refusal :=
  checked [s.blockLengthError, s.scheduleError] s (s.setDout out)

theorem exec_encrypt (s : State) : exec .encrypt s = blockCommand (cipher s.dinBytes s.w s.kskt.nr) s := rfl

theorem exec_decrypt (s : State) : exec .decrypt s = blockCommand (inverseCipher s.dinBytes s.w s.kskt.nr) s := rfl

theorem blockLengthError_of_ne {s : State} (hlen : s.blklen ≠ 16) : s.blockLengthError = some .invalidBlockLength :=
  if_neg fun h => hlen (BitVec.eq_of_toNat_eq h)

section
variable (out : Vector Byte 16) {s : State}

theorem blockCommand_of_length_ne (hlen : s.blklen ≠ 16) :
    blockCommand out s = .next (s.commit .invalidBlockLength) := by
  rw [blockCommand, blockLengthError_of_ne hlen]
  exact checked_of_some rfl _ _

theorem blockCommand_of_no_schedule (hlen : s.blklen = 16) (hksv : s.ksv = false) :
    blockCommand out s = .next (s.commit .noKeySchedule) := by
  rw [blockCommand, blockLengthError_eq_none_iff.mpr hlen, scheduleError_of_no_schedule hksv]
  exact checked_of_some rfl _ _

theorem blockCommand_of_ready (hlen : s.blklen = 16) (hksv : s.ksv = true) :
    blockCommand out s = .next ((s.setDout out).commit .ok) := by
  rw [blockCommand, blockLengthError_eq_none_iff.mpr hlen, scheduleError_eq_none_iff.mpr hksv]
  exact checked_of_none rfl _ _

end

theorem exec_encrypt_of_ready {s : State} (hlen : s.blklen = 16) (hksv : s.ksv = true) :
    exec .encrypt s = .next ((s.setDout (cipher s.dinBytes s.w s.kskt.nr)).commit .ok) :=
  blockCommand_of_ready _ hlen hksv

theorem exec_decrypt_of_ready {s : State} (hlen : s.blklen = 16) (hksv : s.ksv = true) :
    exec .decrypt s = .next ((s.setDout (inverseCipher s.dinBytes s.w s.kskt.nr)).commit .ok) :=
  blockCommand_of_ready _ hlen hksv

/-- Settles O45: the checks in their order; when both pass, the commit writes DOUT, ERR and PENDING. -/
theorem encryptWritesDout : Obligations.EncryptWritesDout := fun _ =>
  ⟨blockCommand_of_length_ne _, blockCommand_of_no_schedule _, fun hlen hksv =>
    ⟨_, exec_encrypt_of_ready hlen hksv, byteOf_blockWords _, rfl⟩⟩

/-- Settles O46: as ENCRYPT, with the block of InverseCipher. -/
theorem decryptWritesDout : Obligations.DecryptWritesDout := fun _ =>
  ⟨blockCommand_of_length_ne _, blockCommand_of_no_schedule _, fun hlen hksv =>
    ⟨_, exec_decrypt_of_ready hlen hksv, byteOf_blockWords _, rfl⟩⟩

/-- Settles O47: the second command reads the first one's block under the same schedule, so O44 applies. -/
theorem decryptAfterEncryptRestoresTheBlock : Obligations.DecryptAfterEncryptRestoresTheBlock := fun s hlen hksv => by
  refine ⟨⟨_, _, exec_encrypt_of_ready hlen hksv, exec_decrypt_of_ready hlen hksv, ?_⟩,
    ⟨_, _, exec_decrypt_of_ready hlen hksv, exec_encrypt_of_ready hlen hksv, ?_⟩⟩
  · rw [State.commit_dout, State.setDout_dout, dinBytes_of_din_eq rfl]
    exact (congrArg blockWords (inverseCipher_cipher _ _ _)).trans (blockWords_dinBytes s)
  · rw [State.commit_dout, State.setDout_dout, dinBytes_of_din_eq rfl]
    exact (congrArg blockWords (cipher_inverseCipher _ _ _)).trans (blockWords_dinBytes s)

/-- The checks read BLKLEN and KSV only, so the same block leaves the same ERR and DOUT. -/
theorem blockCommand_agrees {out : Vector Byte 16} {s s' t t' : State} (hblklen : s.blklen = s'.blklen)
    (hksv : s.ksv = s'.ksv) (ht : blockCommand out s = .next t) (ht' : blockCommand out s' = .next t') :
    t.err = t'.err ∧ (t.err = .ok → t.dout = t'.dout) := by
  by_cases hlen : s.blklen = 16
  · cases hk : s.ksv with
    | true =>
      cases (blockCommand_of_ready out hlen hk).symm.trans ht
      cases (blockCommand_of_ready out (hblklen ▸ hlen) (hksv ▸ hk)).symm.trans ht'
      exact ⟨rfl, fun _ => rfl⟩
    | false =>
      cases (blockCommand_of_no_schedule out hlen hk).symm.trans ht
      cases (blockCommand_of_no_schedule out (hblklen ▸ hlen) (hksv ▸ hk)).symm.trans ht'
      exact ⟨rfl, fun herr => nomatch herr⟩
  · cases (blockCommand_of_length_ne out hlen).symm.trans ht
    cases (blockCommand_of_length_ne out (hblklen ▸ hlen)).symm.trans ht'
    exact ⟨rfl, fun herr => nomatch herr⟩

/-- Settles O48: the block is computed from DIN, W and KSKT, and the checks read BLKLEN and KSV. -/
theorem blockCommandsDependOnInputAndSchedule : Obligations.BlockCommandsDependOnInputAndSchedule := by
  rintro i s s' t t' (rfl | rfl) hblklen hdin hksv hkskt hw ht ht'
  · rw [exec_encrypt, dinBytes_congr hdin, hkskt, hw] at ht
    exact blockCommand_agrees hblklen hksv ht ht'
  · rw [exec_decrypt, dinBytes_congr hdin, hkskt, hw] at ht
    exact blockCommand_agrees hblklen hksv ht ht'

end Sys2Proof.Machine
end

section
/-! Step mode (46_cipher.md R711, R712) and the rows O52 and O53, in two parts: issuing commands one by one does what executing them in
turn does, whatever the latencies; and executing the step-mode commands in turn computes Cipher or InverseCipher in STATE. -/

namespace Sys2Proof.Machine

/-! ### Issuing commands (R310) -/

/-- `ISSUE` of a command to an idle core runs to the command's result, the core idle again, whatever the latency; only side fields
differ (R217, R905). -/
theorem run_issue {i : Instr} {s u : State} {latency : Nat} {rest : List Event} (hwf : i.wf = true)
    (hidle : s.pending = none) (hs : s.schedule = issue i latency ++ rest) (hu : exec i s = .next u) :
    ∃ side : State, side.pending = none ∧ side.schedule = rest ∧
      Host.Core.run core (issue i latency).length s = .next (u.withSide side) := by
  have hexecute : execute (encode i) s = .next u := (execute_of_instr (decodeOfEncodeIsTheCommand i hwf) s).trans hu
  have hpoll : (List.replicate latency (rd .status)).all Event.isDefinedAccess = true :=
    List.all_eq_true.mpr fun e he => List.eq_of_mem_replicate he ▸ Reg.access_defined .status
  have hs' : s.schedule = wr .cmd (encode i) :: List.replicate latency (rd .status) ++ .engine :: rd .status :: rest := by
    simp [hs, issue, issueWord, poll]
  obtain ⟨d, o, n, hrun⟩ := commandSeesTheInputsAtAcceptance s u (encode i) _ _ hidle hpoll hs' hexecute
  have hread := step_of_hostRead (Reg.access_defined .status)
    (s := { u with drop := d, schedule := rd .status :: rest, observed := o, draws := n }) rfl
  have hlength : (issue i latency).length = (List.replicate latency (rd .status)).length + 2 + 1 := by
    simp [issue, issueWord, poll]
  refine ⟨{ u with drop := d, schedule := rest, observed := o, draws := n }.hostRead Reg.status.offset,
    show u.pending = none from execute_pending hexecute, rfl, ?_⟩
  rw [hlength, run_add 1 hrun, run_succ_of_next hread 0]
  rfl

/-- Executing well-formed commands in turn leads from one state to another. -/
inductive ExecutesAll : State → List Instr → State → Prop
  | nil (s : State) : ExecutesAll s [] s
  | cons {i : Instr} {is : List Instr} {s t u : State} (hwf : i.wf = true) (hexec : exec i s = .next t)
    (hrest : ExecutesAll t is u) : ExecutesAll s (i :: is) u

theorem ExecutesAll.append {s t u : State} {is js : List Instr} (h : ExecutesAll s is t) (h' : ExecutesAll t js u) :
    ExecutesAll s (is ++ js) u := by
  induction h with
  | nil => exact h'
  | cons hwf hexec _ ih => exact .cons hwf hexec (ih h')

/-- Issued one by one to an idle core, with any latencies, commands leave what executing them in turn leaves (R310, R905). -/
theorem run_issueAll {s u side : State} {is : List Instr} {latency : Nat → Nat} (h : ExecutesAll s is u)
    (hidle : side.pending = none) (hs : side.schedule = issueAll is latency) :
    ∃ side' : State, side'.pending = none ∧ side'.schedule = [] ∧
      Host.Core.run core (issueAll is latency).length (s.withSide side) = .next (u.withSide side') := by
  induction h generalizing side latency with
  | nil s => exact ⟨side, hidle, hs, rfl⟩
  | @cons i is s t u hwf hexec _ ih =>
    obtain ⟨mid, hidle', hs', hrun⟩ := run_issue (s := s.withSide side) hwf hidle hs (exec_withSide side hexec)
    obtain ⟨side', hidle'', hs'', hrun'⟩ := ih hidle' hs'
    refine ⟨side', hidle'', hs'', ?_⟩
    rw [issueAll, List.length_append]
    exact (run_add _ hrun).trans hrun'

/-! ### One command of step mode -/

/-- The state a command that wrote `m` to STATE leaves, in a sequence begun in `s` that writes STATE only. -/
def State.working (s : State) (m : StateMatrix) : State := (s.setState m).commit .ok

theorem exec_loadState_of_length_eq {s : State} (hlen : s.blklen = 16) :
    exec .loadState s = .next (s.working (pack s.dinBytes)) :=
  checked_of_none (checks := [s.blockLengthError]) (by rw [blockLengthError_eq_none_iff.mpr hlen]; rfl) _ _

theorem exec_storeState (s : State) : exec .storeState s = .next ((s.setDout (flatten s.state)).commit .ok) := rfl

/-- The assembler accepts the index of every round of the schedule: Nr is at most 14 (R10, R309). -/
theorem wf_addRoundKey_of_le_nr {kt : KeyType} {rnd : Nat} (hrnd : rnd ≤ kt.nr) : (Instr.addRoundKey rnd).wf = true := by
  have hnr : kt.nr ≤ 15 := by cases kt <;> decide
  exact decide_eq_true (hrnd.trans hnr)

section
variable (s : State) (m : StateMatrix)

theorem exec_subBytes_working : exec .subBytes (s.working m) = .next (s.working (subBytes m)) := exec_subBytes _

theorem exec_invSubBytes_working : exec .invSubBytes (s.working m) = .next (s.working (invSubBytes m)) :=
  exec_invSubBytes _

theorem exec_shiftRows_working : exec .shiftRows (s.working m) = .next (s.working (shiftRows m)) := exec_shiftRows _

theorem exec_invShiftRows_working : exec .invShiftRows (s.working m) = .next (s.working (invShiftRows m)) :=
  exec_invShiftRows _

theorem exec_mixColumns_working : exec .mixColumns (s.working m) = .next (s.working (mixColumns m)) := exec_mixColumns _

theorem exec_invMixColumns_working : exec .invMixColumns (s.working m) = .next (s.working (invMixColumns m)) :=
  exec_invMixColumns _

variable {s}

theorem exec_addRoundKey_working {rnd : Nat} (hksv : s.ksv = true) (hrnd : rnd ≤ s.kskt.nr) :
    exec (.addRoundKey rnd) (s.working m) = .next (s.working (addRoundKey m s.w rnd)) :=
  exec_addRoundKey_of_le_nr (s := s.working m) hksv hrnd

/-! ### The pseudo-instructions (R311) -/

theorem executesAll_addRoundKey {rnd : Nat} (hksv : s.ksv = true) (hrnd : rnd ≤ s.kskt.nr) :
    ExecutesAll (s.working m) [.addRoundKey rnd] (s.working (addRoundKey m s.w rnd)) :=
  .cons (wf_addRoundKey_of_le_nr hrnd) (exec_addRoundKey_working m hksv hrnd) (.nil _)

theorem executesAll_encRound {r : Nat} (hksv : s.ksv = true) (hr : r ≤ s.kskt.nr) :
    ExecutesAll (s.working m) (encRound r) (s.working (cipherRound s.w m r)) :=
  .cons rfl (exec_subBytes_working s _) <| .cons rfl (exec_shiftRows_working s _) <|
    .cons rfl (exec_mixColumns_working s _) <| executesAll_addRoundKey _ hksv hr

theorem executesAll_encFinal {r : Nat} (hksv : s.ksv = true) (hr : r ≤ s.kskt.nr) :
    ExecutesAll (s.working m) (encFinal r) (s.working (cipherFinal s.w m r)) :=
  .cons rfl (exec_subBytes_working s _) <| .cons rfl (exec_shiftRows_working s _) <| executesAll_addRoundKey _ hksv hr

theorem executesAll_decRound {r : Nat} (hksv : s.ksv = true) (hr : r ≤ s.kskt.nr) :
    ExecutesAll (s.working m) (decRound r) (s.working (inverseCipherRound s.w m r)) :=
  .cons rfl (exec_invShiftRows_working s _) <| .cons rfl (exec_invSubBytes_working s _) <|
    (executesAll_addRoundKey _ hksv hr).append <| .cons rfl (exec_invMixColumns_working s _) (.nil _)

theorem executesAll_decFinal (hksv : s.ksv = true) :
    ExecutesAll (s.working m) decFinal (s.working (inverseCipherFinal s.w m)) :=
  .cons rfl (exec_invShiftRows_working s _) <| .cons rfl (exec_invSubBytes_working s _) <|
    executesAll_addRoundKey _ hksv (Nat.zero_le _)

/-! ### The whole sequences (R711, R712) -/

/-- Sequences that each compute one turn of a fold in STATE together compute the fold. -/
theorem executesAll_flatMap {body : Nat → List Instr} {f : StateMatrix → Nat → StateMatrix} {l : List Nat}
    (h : ∀ r ∈ l, ∀ m, ExecutesAll (s.working m) (body r) (s.working (f m r))) :
    ExecutesAll (s.working m) (l.flatMap body) (s.working (l.foldl f m)) := by
  induction l generalizing m with
  | nil => exact .nil _
  | cons r l ih =>
    exact (h r List.mem_cons_self m).append (ih (f m r) fun r' hr' => h r' (List.mem_cons_of_mem r hr'))

/-- STORE_STATE as the last command: DOUT takes the block of STATE. -/
theorem executesAll_storeState :
    ExecutesAll (s.working m) [.storeState] ((s.working m).setDout (flatten m)) :=
  .cons rfl (exec_storeState _) (.nil _)

end

/-- The rounds of R701 and R703 lie within the schedule. -/
theorem le_nr_of_mem_rounds {kt : KeyType} {r : Nat} (h : r ∈ List.range' 1 (kt.nr - 1)) : r ≤ kt.nr := by
  have := List.mem_range'_1.mp h
  omega

theorem executesAll_stepModeEncrypt {s : State} (hlen : s.blklen = 16) (hksv : s.ksv = true) :
    ExecutesAll s (stepModeEncrypt s.kskt.nr)
      ((s.working (pack (cipher s.dinBytes s.w s.kskt.nr))).setDout (cipher s.dinBytes s.w s.kskt.nr)) := by
  have hload : ExecutesAll s [.loadState, .addRoundKey 0] (s.working (addRoundKey (pack s.dinBytes) s.w 0)) :=
    .cons rfl (exec_loadState_of_length_eq hlen) (executesAll_addRoundKey _ hksv (Nat.zero_le _))
  have hrounds := executesAll_flatMap (addRoundKey (pack s.dinBytes) s.w 0) fun r hr m =>
    executesAll_encRound m hksv (le_nr_of_mem_rounds hr)
  rw [pack_cipher]
  exact ((hload.append hrounds).append (executesAll_encFinal _ hksv (Nat.le_refl _))).append (executesAll_storeState _)

theorem executesAll_stepModeDecrypt {s : State} (hlen : s.blklen = 16) (hksv : s.ksv = true) :
    ExecutesAll s (stepModeDecrypt s.kskt.nr)
      ((s.working (pack (inverseCipher s.dinBytes s.w s.kskt.nr))).setDout
        (inverseCipher s.dinBytes s.w s.kskt.nr)) := by
  have hload : ExecutesAll s [.loadState, .addRoundKey s.kskt.nr]
      (s.working (addRoundKey (pack s.dinBytes) s.w s.kskt.nr)) :=
    .cons rfl (exec_loadState_of_length_eq hlen)
      (executesAll_addRoundKey _ hksv (Nat.le_refl _))
  have hrounds := executesAll_flatMap (addRoundKey (pack s.dinBytes) s.w s.kskt.nr) fun r hr m =>
    executesAll_decRound m hksv (le_nr_of_mem_rounds (List.mem_reverse.mp hr))
  rw [pack_inverseCipher]
  exact ((hload.append hrounds).append (executesAll_decFinal _ hksv)).append (executesAll_storeState _)

/-- Settles O52: the sequence is executed as issued, and leaves in DOUT the block ENCRYPT leaves. -/
theorem stepModeReproducesEncrypt : Obligations.StepModeReproducesEncrypt := by
  intro s u latency hidle hksv hlen hu
  cases (exec_encrypt_of_ready hlen hksv).symm.trans hu
  obtain ⟨side, hpending, hschedule, hrun⟩ :=
    run_issueAll (side := s.withProgram (issueAll (stepModeEncrypt s.kskt.nr) latency))
      (executesAll_stepModeEncrypt hlen hksv) hidle rfl
  exact ⟨_, hrun, rfl, rfl, rfl, hpending, hschedule⟩

/-- Settles O53: the sequence is executed as issued, and leaves in DOUT the block DECRYPT leaves. -/
theorem stepModeReproducesDecrypt : Obligations.StepModeReproducesDecrypt := by
  intro s u latency hidle hksv hlen hu
  cases (exec_decrypt_of_ready hlen hksv).symm.trans hu
  obtain ⟨side, hpending, hschedule, hrun⟩ :=
    run_issueAll (side := s.withProgram (issueAll (stepModeDecrypt s.kskt.nr) latency))
      (executesAll_stepModeDecrypt hlen hksv) hidle rfl
  exact ⟨_, hrun, rfl, rfl, rfl, hpending, hschedule⟩

end Sys2Proof.Machine
end

section
/-! The engine's step (47_control.md R751, R752), NOP, LOAD_STATE and STORE_STATE (R761 to R765), the end of every command (R753,
R755) and the rows O5, O7, O8, O49, O50 and O51. -/

namespace Sys2Proof.Machine

/-! ### The engine's step (R751, R752) -/

theorem step_of_no_event {s : State} (hs : s.schedule = []) : step s = engineOrStop (.refused .noAgentHasAStep) s := by
  simp only [step, hs]

/-- With no event to come the engine executes the pending word (R758). -/
theorem step_of_no_event_of_pending {s : State} {v : Word} (hp : s.pending = some v) (hs : s.schedule = []) :
    step s = execute v s :=
  (step_of_no_event hs).trans (engineOrStop_of_pending hp _)

theorem step_of_engine_idle {s : State} {rest : List Event} (hp : s.pending = none) (hs : s.schedule = .engine :: rest) :
    step s = .next { s with schedule := rest } := by
  simp only [step, hs, eventStep, engineTurn, hp]

/-- Settles O5: the pending word is executed, at the end of the schedule or in a turn of the engine, and it decodes. -/
theorem stepRunsTheDecodedCommand : Obligations.StepRunsTheDecodedCommand := fun s _ _ hp hd =>
  ⟨fun hs => (step_of_no_event_of_pending hp hs).trans (execute_of_instr hd s),
    fun _ hs => (step_of_engine hp hs).trans (execute_of_instr hd _)⟩

/-- Settles O7: the model's two answers where R751 gives the engine no step. -/
theorem idleEngineHasNoStep : Obligations.IdleEngineHasNoStep := fun _ hp =>
  ⟨fun hs => (step_of_no_event hs).trans (engineOrStop_of_idle hp _), fun _ hs => step_of_engine_idle hp hs⟩

/-- Settles O8: a command answers a next state, and however it ends it empties PENDING. -/
theorem everyCommandEnds : Obligations.EveryCommandEnds := fun i s =>
  let ⟨t, ht⟩ := exec_next i s
  have hpending : t.pending = none := (exec_commandEnd ht).pending_eq_none
  ⟨t, ht, hpending, busy_eq_false_iff.mpr hpending⟩

/-! ### NOP (R761) -/

theorem exec_nop (s : State) : exec .nop s = .next (s.commit .ok) := succeed_eq s

/-- The row of opcode 0 is NOP's, and it matches the word 0 only (R303). -/
theorem decode_of_opField_zero {v : Word} (hop : opField v = 0x00) :
    decode v = if v = 0 then .instr .nop else .illegal .nonzeroUnusedField := by
  have hrow : rowOfOpcode 0x00 = some ⟨0x00, .nop, 0x00000000, 0xFFFFFFFF⟩ := rfl
  simp only [decode, hop, hrow, and_fullMask, commandOf]

/-- Settles O49: with OP = 0 the word 0 is NOP, which commits OK, and every other word is illegal. -/
theorem nopClearsErrAndNothingElse : Obligations.NopClearsErrAndNothingElse := by
  refine fun s => ⟨exec_nop s, fun v hop => ?_⟩
  have hdecode := decode_of_opField_zero (v := v) hop
  by_cases hv : v = 0
  · rw [if_pos hv] at hdecode ⊢
    exact (execute_of_instr hdecode s).trans (exec_nop s)
  · rw [if_neg hv] at hdecode ⊢
    exact execute_of_illegal hdecode s

/-! ### LOAD_STATE and STORE_STATE (R763, R765) -/

theorem exec_loadState_of_length_ne {s : State} (hlen : s.blklen ≠ 16) :
    exec .loadState s = .next (s.commit .invalidBlockLength) :=
  checked_of_some (checks := [s.blockLengthError]) (by rw [blockLengthError_of_ne hlen]; rfl) _ _

/-- The columns of a packed block are the words of the block: both take bytes 4c to 4c + 3 (R15, R17, R117). -/
theorem colword_pack (x : Vector Byte 16) (c : Fin 4) : colword (pack x) c = (blockWords x)[c] :=
  word_ext fun r => by
    rw [byteOf_colword, cell_pack, byteOf_blockWords]
    simp only [Nat.add_comm]

theorem colword_pack_dinBytes (s : State) (c : Fin 4) : colword (pack s.dinBytes) c = s.din[c] := by
  rw [colword_pack, blockWords_dinBytes]

theorem getElem_blockWords_flatten (m : StateMatrix) (j : Fin 4) : (blockWords (flatten m))[j] = colword m j := by
  rw [← colword_pack, pack_flatten]

/-- Settles O50: the one check decides; when it passes, the commit writes STATE, ERR and PENDING, and the columns are DIN. -/
theorem loadStateCopiesDinToTheColumns : Obligations.LoadStateCopiesDinToTheColumns := fun s =>
  ⟨exec_loadState_of_length_ne, fun hlen =>
    ⟨_, exec_loadState_of_length_eq hlen, colword_pack_dinBytes s, rfl, rfl⟩⟩

/-- Settles O51: the commit writes DOUT, ERR and PENDING, and the words of the flattened STATE are its columns. -/
theorem storeStateCopiesTheColumnsToDout : Obligations.StoreStateCopiesTheColumnsToDout := fun s =>
  ⟨_, exec_storeState s, getElem_blockWords_flatten s.state, rfl⟩

end Sys2Proof.Machine
end

section
/-! Which error a command reports, and what a failed command leaves (60_exceptions.md R802, R803), the completion of an accepted
command (47_control.md R758) and the rows O9, O12 and O13. -/

namespace Sys2Proof.Machine

/-! ### The error of a list of checks (R802) -/

/-- The error `checks` report: the first found, or OK. -/
def reportedError (checks : List (Option ErrCode)) : ErrCode := (firstError checks).getD .ok

/-- A command that makes checks ends with the error they report in ERR. -/
theorem err_of_checked {checks : List (Option ErrCode)} {s done t : State} (h : checked checks s done = .next t) :
    t.err = reportedError checks := by
  rcases checked_cases checks s done with ⟨code, hc, e⟩ | ⟨hc, e⟩
  · cases e.symm.trans h
    rw [reportedError, hc]; rfl
  · cases e.symm.trans h
    rw [reportedError, hc]; rfl

/-- The checks each command makes, in its order; the commands that make none cannot fail. -/
def State.checksOf (s : State) : Instr → List (Option ErrCode)
  | .keyExpand kt => [s.keyLengthError kt]
  | .encrypt => [s.blockLengthError, s.scheduleError]
  | .decrypt => [s.blockLengthError, s.scheduleError]
  | .loadState => [s.blockLengthError]
  | .addRoundKey rnd => [s.scheduleError, s.roundError rnd]
  | _ => []

theorem err_of_exec {i : Instr} {s t : State} (h : exec i s = .next t) : t.err = reportedError (s.checksOf i) := by
  cases i with
  | keyExpand kt => exact err_of_checked h
  | encrypt => exact err_of_checked h
  | decrypt => exact err_of_checked h
  | loadState => exact err_of_checked h
  | addRoundKey rnd => exact err_of_checked h
  | _ => cases h; rfl

/-! ### The numbers of R802 -/

section
variable (s : State)

theorem code_keyLengthError (kt : KeyType) :
    (reportedError [s.keyLengthError kt]).code = if s.keylen.toNat ≠ 4 * kt.nk then 2 else 0 := by
  by_cases hlen : s.keylen.toNat = 4 * kt.nk
  · rw [keyLengthError_eq_none_iff.mpr hlen, if_neg (not_not.mpr hlen)]; rfl
  · rw [keyLengthError_of_ne hlen, if_pos hlen]; rfl

/-- A check of BLKLEN made first is the one reported if it fails; otherwise the later checks decide. -/
theorem code_blockLengthError_cons (checks : List (Option ErrCode)) :
    (reportedError (s.blockLengthError :: checks)).code =
      if s.blklen ≠ 16 then 1 else (reportedError checks).code := by
  by_cases hlen : s.blklen = 16
  · rw [blockLengthError_eq_none_iff.mpr hlen, if_neg (not_not.mpr hlen)]; rfl
  · rw [blockLengthError_of_ne hlen, if_pos hlen]; rfl

/-- A check of KSV made first is the one reported if it fails; otherwise the later checks decide. -/
theorem code_scheduleError_cons (checks : List (Option ErrCode)) :
    (reportedError (s.scheduleError :: checks)).code = if s.ksv = false then 3 else (reportedError checks).code := by
  cases hksv : s.ksv with
  | true => rw [scheduleError_eq_none_iff.mpr hksv]; rfl
  | false => rw [scheduleError_of_no_schedule hksv]; rfl

theorem code_roundError (rnd : Nat) :
    (reportedError [s.roundError rnd]).code = if rnd > s.kskt.nr then 5 else 0 := by
  by_cases hrnd : rnd ≤ s.kskt.nr
  · rw [roundError_eq_none_iff.mpr hrnd, if_neg (Nat.not_lt.mpr hrnd)]; rfl
  · rw [roundError_of_nr_lt (Nat.lt_of_not_le hrnd), if_pos (Nat.lt_of_not_le hrnd)]; rfl

/-- The checks of each command report the number R802 gives. -/
theorem code_checksOf {v : Word} {i : Instr} (hd : decode v = .instr i) :
    (reportedError (s.checksOf i)).code = s.expectedError v := by
  unfold State.expectedError
  rw [hd]
  cases i with
  | keyExpand kt => exact code_keyLengthError s kt
  | encrypt => simp only [State.checksOf, code_blockLengthError_cons, code_scheduleError_cons]; rfl
  | decrypt => simp only [State.checksOf, code_blockLengthError_cons, code_scheduleError_cons]; rfl
  | loadState => exact code_blockLengthError_cons s []
  | addRoundKey rnd => simp only [State.checksOf, code_scheduleError_cons, code_roundError]
  | _ => rfl

end

theorem err_code_of_execute {v : Word} {s t : State} (h : execute v s = .next t) : t.err.code = s.expectedError v := by
  cases hd : decode v with
  | illegal why =>
    rw [execute_of_illegal hd] at h
    cases h
    rw [State.expectedError, hd]
    rfl
  | instr i =>
    rw [execute_of_instr hd] at h
    rw [err_of_exec h, code_checksOf s hd]

/-- Settles O12: execution ends, and the checks the command makes are those R802 lists. -/
theorem firstFailingCheckIsReported : Obligations.FirstFailingCheckIsReported := fun s v =>
  let ⟨t, ht⟩ := execute_next v s
  ⟨t, ht, err_code_of_execute ht, execute_pending ht⟩

/-! ### A failed command (R803, R662) -/

/-- Only an end that wrote nothing beside ERR and PENDING has an error code. -/
theorem CommandEnd.eq_commit_of_failed {s t : State} {i : Instr} (h : CommandEnd s i t) (hfailed : t.err ≠ .ok) :
    t = s.commit t.err := by
  cases h with
  | onlyErr => rfl
  | _ => exact absurd rfl hfailed

/-- Settles O13: an illegal word commits ERR alone, and so does every command that ends with an error. -/
theorem failedCommandChangesOnlyErr : Obligations.FailedCommandChangesOnlyErr := by
  intro v s t h hfailed
  rcases execute_cases h with rfl | ⟨i, hend⟩
  · rfl
  · exact hend.eq_commit_of_failed hfailed

/-! ### An accepted command (R758) -/

/-- The checks of R802 read KEYLEN, BLKLEN, KSV and KSKT only. -/
theorem expectedError_congr {s s' : State} (v : Word) (hkeylen : s.keylen = s'.keylen) (hblklen : s.blklen = s'.blklen)
    (hksv : s.ksv = s'.ksv) (hkskt : s.kskt = s'.kskt) : s.expectedError v = s'.expectedError v := by
  simp only [State.expectedError, hkeylen, hblklen, hksv, hkskt]

/-- Settles O9: the accesses to the busy core change nothing the checks read, and then the engine executes the word. -/
theorem acceptedCommandCompletes : Obligations.AcceptedCommandCompletes := by
  intro s v hp hdef
  obtain ⟨d, o, n, hrun⟩ :=
    run_accesses_busy (rest := []) (busy_eq_true_iff.mpr ⟨v, hp⟩) hdef (List.append_nil _).symm
  generalize hs' : { s with drop := d, schedule := [], observed := o, draws := n } = s' at hrun
  have hp' : s'.pending = some v := by rw [← hs', hp]
  have hschedule : s'.schedule = [] := by rw [← hs']
  have herror : s'.expectedError v = s.expectedError v := by rw [← hs']; exact expectedError_congr v rfl rfl rfl rfl
  obtain ⟨t, ht⟩ := execute_next v s'
  have hstep : step s' = .next t := (step_of_no_event_of_pending hp' hschedule).trans ht
  exact ⟨t, (run_add 1 hrun).trans (run_succ_of_next hstep 0), execute_pending ht,
    (execute_schedule ht).trans hschedule, (err_code_of_execute ht).trans herror⟩

end Sys2Proof.Machine
end

section
/-! Reset (70_reset_and_hazards.md R901, R902) and the rows O22 and O23. -/

namespace Sys2Proof.Machine

/-- A platform reset gives every register its value of R901, whatever the state before it. -/
theorem hasResetValues_platformReset (s : State) : s.platformReset.HasResetValues where
  pending := rfl
  ksv := rfl
  kskt := rfl
  drop := rfl
  err := rfl
  status := show State.reset.statusWord = 0 by decide
  keylen := rfl
  blklen := rfl
  gfr := rfl
  key j := by simp [State.reset]
  din j := by simp [State.reset]
  dout j := by simp [State.reset]
  state r c := by simp [State.reset, StateMatrix.cell]
  w i := by simp [State.reset]

theorem scheduleInv_platformReset (s : State) : s.platformReset.ScheduleInv := scheduleInv_reset.congr rfl rfl rfl

/-- Settles O22: a reset event is a platform reset, and a platform reset of the reset state changes nothing. -/
theorem resetGivesEveryRegisterItsValue : Obligations.ResetGivesEveryRegisterItsValue :=
  ⟨⟨hasResetValues_platformReset State.reset, scheduleInv_reset⟩, fun _ _ hs =>
    ⟨_, step_of_reset hs, hasResetValues_platformReset _, scheduleInv_platformReset _, rfl⟩⟩

/-- Settles O23: KSV is 0 at reset, and so are KSKT and every word of W. -/
theorem scheduleInvHoldsAtReset : Obligations.ScheduleInvHoldsAtReset := scheduleInv_reset

end Sys2Proof.Machine
end

section
/-! The boot sequence (70_reset_and_hazards.md R921) and the row O54, in three parts: writes to an idle core happen one after another;
the two sets of registers the sequence writes then hold the key and the block; and each command is issued to an idle core. -/

namespace Sys2Proof.Machine

/-! ### Writes to an idle core (R204) -/

/-- `WR` of each value to its register in turn, as the host's events. -/
def wrAll (writes : List (Reg × Word)) : List Event := writes.map fun p => wr p.1 p.2

/-- The same writes, made. -/
def State.writeAll (s : State) (writes : List (Reg × Word)) : State := writes.foldl (fun s p => s.writeReg p.1 p.2) s

theorem writeReg_withProgram (s : State) (program : List Event) (r : Reg) (v : Word) :
    (s.withProgram program).writeReg r v = (s.writeReg r v).withProgram program := by
  cases r <;> rfl

/-- A write anywhere but to CMD leaves an idle core idle (R110). -/
theorem writeReg_pending {r : Reg} (hr : r ≠ .cmd) (s : State) (v : Word) : (s.writeReg r v).pending = s.pending := by
  cases r with
  | cmd => exact absurd rfl hr
  | _ => rfl

/-- Writes to an idle core, none of them to CMD, are all made. -/
theorem run_wrAll {writes : List (Reg × Word)} {s : State} (rest : List Event) (hidle : s.pending = none)
    (hcmd : ∀ p ∈ writes, p.1 ≠ .cmd) :
    Host.Core.run core (wrAll writes).length (s.withProgram (wrAll writes ++ rest)) =
      .next ((s.writeAll writes).withProgram rest) := by
  induction writes generalizing s with
  | nil => rfl
  | cons p writes ih =>
    obtain ⟨hp, hwrites⟩ := List.forall_mem_cons.mp hcmd
    have hstep : step (s.withProgram (wrAll (p :: writes) ++ rest)) =
        .next ((s.writeReg p.1 p.2).withProgram (wrAll writes ++ rest)) :=
      (step_of_wr_accepted (s := s.withProgram (wrAll (p :: writes) ++ rest)) rfl
        (.inl (busy_eq_false_iff.mpr hidle))).trans (congrArg _ (writeReg_withProgram s (wrAll writes ++ rest) p.1 p.2))
    exact (run_succ_of_next hstep _).trans (ih ((writeReg_pending hp s p.2).trans hidle) hwrites)

/-! ### Writes to a bank of registers -/

section Bank

variable {n : Nat} (f : Fin n → Word)

/-- Register j of the bank takes `f j`, for each listed j. -/
def writeBank (bank : Vector Word n) (l : List (Fin n)) : Vector Word n :=
  l.foldl (fun bank j => bank.set j.val (f j)) bank

theorem writeBank_concat (bank : Vector Word n) (l : List (Fin n)) (i : Fin n) :
    writeBank f bank (l ++ [i]) = (writeBank f bank l).set i.val (f i) := List.foldl_concat ..

theorem getElem_writeBank_of_mem {l : List (Fin n)} {j : Fin n} (hj : j ∈ l) (bank : Vector Word n) :
    (writeBank f bank l)[j] = f j := by
  induction l using List.reverseRecOn with
  | nil => cases hj
  | append_singleton l i ih =>
    rw [writeBank_concat, Fin.getElem_fin, Vector.getElem_set]
    by_cases hij : i = j
    · rw [if_pos (congrArg Fin.val hij), hij]
    · rw [if_neg (Fin.val_ne_of_ne hij)]
      exact ih ((List.mem_append.mp hj).resolve_right fun h => hij (List.mem_singleton.mp h).symm)

end Bank

theorem writeAll_key (f : Fin 8 → Word) (l : List (Fin 8)) (s : State) :
    s.writeAll (l.map fun j => (.key j, f j)) = { s with key := writeBank f s.key l } := by
  induction l generalizing s with
  | nil => rfl
  | cons j l ih => exact ih _

theorem writeAll_din (f : Fin 4 → Word) (l : List (Fin 4)) (s : State) :
    s.writeAll (l.map fun j => (.din j, f j)) = { s with din := writeBank f s.din l } := by
  induction l generalizing s with
  | nil => rfl
  | cons j l ih => exact ih _

/-! ### SET_KEY and SET_BLOCK (R311) -/

/-- The key registers of a key type. -/
def keyRegisters (kt : KeyType) : List (Fin 8) := (List.finRange 8).filter fun j => j.val < kt.nk

theorem mem_keyRegisters {kt : KeyType} {j : Fin 8} (hj : j.val < kt.nk) : j ∈ keyRegisters kt :=
  List.mem_filter.mpr ⟨List.mem_finRange j, decide_eq_true hj⟩

/-- The writes of SET_KEY. -/
def setKeyWrites (kt : KeyType) (key : Vector Byte 32) : List (Reg × Word) :=
  (.keylen, BitVec.ofNat 32 (4 * kt.nk)) :: (keyRegisters kt).map fun j => (.key j, keyWord key j)

theorem setKey_eq_wrAll (kt : KeyType) (key : Vector Byte 32) : setKey kt key = wrAll (setKeyWrites kt key) := by
  simp only [setKey, wrAll, setKeyWrites, keyRegisters, List.map_cons, List.map_map]
  rfl

/-- The writes of SET_BLOCK. -/
def setBlockWrites (block : Vector Byte 16) : List (Reg × Word) :=
  (.blklen, 16) :: (List.finRange 4).map fun j => (.din j, (blockWords block)[j])

theorem setBlock_eq_wrAll (block : Vector Byte 16) : setBlock block = wrAll (setBlockWrites block) := by
  simp only [setBlock, wrAll, setBlockWrites, List.map_cons, List.map_map]
  rfl

/-- SET_KEY leaves the key's length in KEYLEN and its words in the key registers. -/
def State.withKey (s : State) (kt : KeyType) (key : Vector Byte 32) : State :=
  { s with keylen := BitVec.ofNat 8 (4 * kt.nk), key := writeBank (keyWord key) s.key (keyRegisters kt) }

theorem writeAll_setKeyWrites (kt : KeyType) (key : Vector Byte 32) (s : State) :
    s.writeAll (setKeyWrites kt key) = s.withKey kt key := by
  have hlen : (BitVec.ofNat 32 (4 * kt.nk)).extractLsb' 0 8 = BitVec.ofNat 8 (4 * kt.nk) := by cases kt <;> decide
  exact (writeAll_key _ _ _).trans (by rw [State.withKey, ← hlen]; rfl)

/-- SET_BLOCK leaves 16 in BLKLEN and the block in DIN. -/
def State.withBlock (s : State) (block : Vector Byte 16) : State := { s with blklen := 16, din := blockWords block }

theorem writeBank_finRange {n : Nat} (words bank : Vector Word n) :
    writeBank (fun j => words[j]) bank (List.finRange n) = words :=
  Vector.ext fun j hj => getElem_writeBank_of_mem (fun j => words[j]) (List.mem_finRange ⟨j, hj⟩) bank

theorem writeAll_setBlockWrites (block : Vector Byte 16) (s : State) :
    s.writeAll (setBlockWrites block) = s.withBlock block := by
  refine (writeAll_din _ _ _).trans ?_
  rw [writeBank_finRange]
  rfl

theorem run_setKey (kt : KeyType) (key : Vector Byte 32) {s : State} (rest : List Event) (hidle : s.pending = none) :
    Host.Core.run core (setKey kt key).length (s.withProgram (setKey kt key ++ rest)) =
      .next ((s.withKey kt key).withProgram rest) := by
  have hcmd : ∀ p ∈ setKeyWrites kt key, p.1 ≠ .cmd := by simp [setKeyWrites]
  rw [setKey_eq_wrAll, run_wrAll rest hidle hcmd, writeAll_setKeyWrites]

theorem run_setBlock (block : Vector Byte 16) {s : State} (rest : List Event) (hidle : s.pending = none) :
    Host.Core.run core (setBlock block).length (s.withProgram (setBlock block ++ rest)) =
      .next ((s.withBlock block).withProgram rest) := by
  have hcmd : ∀ p ∈ setBlockWrites block, p.1 ≠ .cmd := by simp [setBlockWrites]
  rw [setBlock_eq_wrAll, run_wrAll rest hidle hcmd, writeAll_setBlockWrites]

/-! ### The whole sequence (R921) -/

/-- KEY_EXPAND after SET_KEY expands the key that was set: it reads the registers SET_KEY wrote, and no others (R660). -/
theorem exec_keyExpand_withKey (kt : KeyType) (key : Vector Byte 32) (s : State) :
    exec (.keyExpand kt) (s.withKey kt key) =
      .next (((s.withKey kt key).setSchedule kt (keyExpansion kt key)).commit .ok) := by
  have hlen : (s.withKey kt key).keylen.toNat = 4 * kt.nk := by cases kt <;> rfl
  have hkey : keyExpansion kt (s.withKey kt key).keyBytes = keyExpansion kt key :=
    keyExpansion_congr fun j hj =>
      (keyWord_keyBytes _ j).trans (getElem_writeBank_of_mem (keyWord key) (mem_keyRegisters hj) s.key)
  rw [exec_keyExpand_of_length_eq hlen, hkey]

/-- What steps 1 to 3 of the boot sequence leave: the key's schedule in W and the block in DIN, for the next command. -/
structure State.Booted (s : State) (kt : KeyType) (key : Vector Byte 32) (block : Vector Byte 16) : Prop where
  pending : s.pending = none
  ksv : s.ksv = true
  kskt : s.kskt = kt
  w : s.w = keyExpansion kt key
  blklen : s.blklen = 16
  dinBytes : s.dinBytes = block

theorem withProgram_of_schedule_eq {s : State} {program : List Event} (h : s.schedule = program) :
    s.withProgram program = s := by
  rw [← h]; rfl

/-- Steps 1 to 3 of the boot sequence, from reset, whatever the latency and the events after them. -/
theorem run_boot (kt : KeyType) (key : Vector Byte 32) (block : Vector Byte 16) (latency : Nat) (rest : List Event) :
    ∃ s : State, s.Booted kt key block ∧ s.schedule = rest ∧
      Host.Core.run core (setKey kt key ++ issue (.keyExpand kt) latency ++ setBlock block).length
        (State.reset.withProgram (setKey kt key ++ issue (.keyExpand kt) latency ++ setBlock block ++ rest)) =
          .next s := by
  have hkey := run_setKey kt key (s := State.reset) (issue (.keyExpand kt) latency ++ (setBlock block ++ rest)) rfl
  obtain ⟨side, hidle, hs, hexpand⟩ := run_issue (i := .keyExpand kt) (latency := latency) rfl rfl rfl
    (exec_keyExpand_withKey kt key (State.reset.withProgram (issue (.keyExpand kt) latency ++ (setBlock block ++ rest))))
  generalize hm : State.withSide _ side = m at hexpand
  have hblock := run_setBlock block (s := m) rest (by rw [← hm]; exact hidle)
  rw [withProgram_of_schedule_eq (by rw [← hm]; exact hs)] at hblock
  refine ⟨(m.withBlock block).withProgram rest, ?_, rfl, ?_⟩
  · subst hm
    exact ⟨hidle, rfl, rfl, rfl, rfl, dinBytes_of_din_eq rfl⟩
  · simp only [List.append_assoc, List.length_append] at hkey ⊢
    exact (run_add _ hkey).trans ((run_add _ hexpand).trans hblock)

/-- The boot sequence with a last command that leaves a block in DOUT once the core is booted. -/
theorem run_bootSequence {kt : KeyType} {key : Vector Byte 32} {block out : Vector Byte 16} {i : Instr} (l₁ l₂ : Nat)
    (hwf : i.wf = true)
    (hexec : ∀ s : State, s.Booted kt key block → exec i s = .next ((s.setDout out).commit .ok)) :
    ∃ t, Host.Core.run core (bootSequence kt key block i l₁ l₂).length
        (State.reset.withProgram (bootSequence kt key block i l₁ l₂)) = .next t ∧
      t.dout = blockWords out ∧ t.err = .ok ∧ t.ksv = true ∧ t.kskt = kt ∧ t.pending = none := by
  obtain ⟨s, hbooted, hs, hboot⟩ := run_boot kt key block l₁ (issue i l₂)
  obtain ⟨side, hidle, -, hissue⟩ :=
    run_issue (rest := []) hwf hbooted.pending (hs.trans (List.append_nil _).symm) (hexec s hbooted)
  refine ⟨((s.setDout out).commit .ok).withSide side, ?_, rfl, rfl, hbooted.ksv, hbooted.kskt, hidle⟩
  rw [bootSequence, List.length_append]
  exact (run_add _ hboot).trans hissue

/-- Settles O54: the core is booted with the key's schedule and the block, and the last command finds its checks met. -/
theorem bootSequenceEncryptsAndDecrypts : Obligations.BootSequenceEncryptsAndDecrypts := by
  intro kt key block l₁ l₂
  refine ⟨run_bootSequence l₁ l₂ rfl fun s hbooted => ?_, run_bootSequence l₁ l₂ rfl fun s hbooted => ?_⟩
  · rw [exec_encrypt_of_ready hbooted.blklen hbooted.ksv, hbooted.dinBytes, hbooted.w, hbooted.kskt]
  · rw [exec_decrypt_of_ready hbooted.blklen hbooted.ksv, hbooted.dinBytes, hbooted.w, hbooted.kskt]

end Sys2Proof.Machine
end
